-- ==== Sys2Proof/Word.lean ====
section
/-!
DEFINITION. The plain word types of the engine (00_scope.md R16, R17): bytes, the three integer widths of the
wire and of the registers, and the two fixed-length byte strings (magics are 4 bytes, tokens 2 bytes, R12, R83).
-/

namespace Sys2Proof

/-- A byte: a natural number below 256 (R17). -/
abbrev Byte := BitVec 8

/-- A 16-bit unsigned integer: sequence numbers, lengths, attempt counts (R16). -/
abbrev Half := BitVec 16

/-- A 32-bit unsigned integer: CRC values (R16). -/
abbrev Word := BitVec 32

/-- A 64-bit unsigned integer: file sizes and register values (R16, R69). -/
abbrev Dword := BitVec 64

/-- A byte string of exactly 4 bytes, byte 0 first on the wire: a magic marker (R12, R83). -/
structure Bytes4 where
  b0 : Byte
  b1 : Byte
  b2 : Byte
  b3 : Byte
deriving DecidableEq, Repr

/-- A byte string of exactly 2 bytes, byte 0 first on the wire: a final status token (R12, R83). -/
structure Bytes2 where
  b0 : Byte
  b1 : Byte
deriving DecidableEq, Repr

end Sys2Proof
end

