-- ==== Sys2Proof/Machine/Operands.lean ====
section
/-!
DEFINITION. Byte strings and little-endian packing (00_scope.md R18, R19; 20_memory.md R81 to R84), the one set of
packing functions used by the wire frames, the command operands, the responses and the register map (R82).
-/

namespace Sys2Proof.Machine

open Sys2Proof

/-- Byte `i` of a byte string, counted from 0 (R18). A position past the end reads 0; no rule reads one (log 10). -/
def byteAt (s : List Byte) (i : Nat) : Byte := s.getD i 0

/-- `last(n, s)`: the last `min(n, |s|)` bytes (R18). -/
def lastN (n : Nat) (s : List Byte) : List Byte := s.drop (s.length - n)

/-- `s[i .. i+n-1]` (R18, `MemRead` of R20). -/
def slice (s : List Byte) (i n : Nat) : List Byte := (s.drop i).take n

/-- `le16` (R19): byte `i` is `(v >> (8*i)) and 0xFF`. -/
def le16 (v : Half) : List Byte := [v.extractLsb' 0 8, v.extractLsb' 8 8]

/-- `le32` (R19). -/
def le32 (v : Word) : List Byte :=
  [v.extractLsb' 0 8, v.extractLsb' 8 8, v.extractLsb' 16 8, v.extractLsb' 24 8]

/-- `le64` (R19). -/
def le64 (v : Dword) : List Byte :=
  [v.extractLsb' 0 8, v.extractLsb' 8 8, v.extractLsb' 16 8, v.extractLsb' 24 8,
   v.extractLsb' 32 8, v.extractLsb' 40 8, v.extractLsb' 48 8, v.extractLsb' 56 8]

/-- `rd_le16` (R19): the bytes at offsets `o` and `o + 1`, least significant first, zero-extended (R114). -/
def rdLe16 (s : List Byte) (o : Nat) : Half := byteAt s (o + 1) ++ byteAt s o

/-- `rd_le32` (R19). -/
def rdLe32 (s : List Byte) (o : Nat) : Word := rdLe16 s (o + 2) ++ rdLe16 s o

/-- `rd_le64` (R19). -/
def rdLe64 (s : List Byte) (o : Nat) : Dword := rdLe32 s (o + 4) ++ rdLe32 s o

/-- A magic marker as the bytes it puts on the wire, byte 0 first (R83). -/
def magicBytes (m : Bytes4) : List Byte := [m.b0, m.b1, m.b2, m.b3]

/-- A final status token as the bytes it puts on the wire, byte 0 first (R83). -/
def tokenBytes (t : Bytes2) : List Byte := [t.b0, t.b1]

/-- `|s|` as a 16-bit length field; exact for the byte strings the formats admit (R130). -/
def len16 (s : List Byte) : Half := BitVec.ofNat 16 s.length

end Sys2Proof.Machine
end

