-- ==== Sys2Proof/Syntax.lean ====
section
/-!
DEFINITION. The syntax of the command set: the ten formats (30_encoding.md R130), the 25 opcode names and the 25
commands with their operands (R132, spec/opcode_table.json). A command is an event of the engine (00_scope.md R9,
R23): a host command or a port event.
-/

namespace Sys2Proof

/-- The command formats of R130. -/
inductive Format where
  | c0
  | c8
  | c8x2
  | c32
  | cm
  | c16x2
  | cd
  | chs
  | css
  | cbk
deriving DecidableEq, Repr

/-- The opcode names of R132, one per row of spec/opcode_table.json. -/
inductive Opcode where
  | crcInit | crcFeed | crcRead
  | encHs | decHs | encSess | decSess | encBlk | decBlk | tokClass | finClass
  | syncArm | syncFeed
  | sStart | rStart | modeDone | sFileData | sFileEnd | sBlockData
  | evRx | evTimeout | evIoError | evAbort
  | regRead | reset
deriving DecidableEq, Repr

/-- The commands of R132 with their operands. A variable-length operand is a byte string of at most 65535 bytes
(`Instr.WellFormed`). -/
inductive Instr where
  /-- `CRC_INIT seed` (R163) -/
  | crcInit (seed : Word)
  /-- `CRC_FEED data` (R164) -/
  | crcFeed (data : List Byte)
  /-- `CRC_READ` (R165) -/
  | crcRead
  /-- `ENC_HS total, crc, name` (R190) -/
  | encHs (total : Dword) (crc : Word) (name : List Byte)
  /-- `DEC_HS bytes` (R191) -/
  | decHs (bytes : List Byte)
  /-- `ENC_SESS total, crc` (R192) -/
  | encSess (total : Dword) (crc : Word)
  /-- `DEC_SESS bytes` (R193) -/
  | decSess (bytes : List Byte)
  /-- `ENC_BLK seq, crc, payload` (R194) -/
  | encBlk (seq : Half) (crc : Word) (payload : List Byte)
  /-- `DEC_BLK bytes` (R195) -/
  | decBlk (bytes : List Byte)
  /-- `TOK_CLASS b` (R196) -/
  | tokClass (b : Byte)
  /-- `FIN_CLASS b0, b1` (R197) -/
  | finClass (b0 b1 : Byte)
  /-- `SYNC_ARM magic` (R222) -/
  | syncArm (magic : Bytes4)
  /-- `SYNC_FEED b` (R223) -/
  | syncFeed (b : Byte)
  /-- `S_START blockSize, maxAttempts` (R240) -/
  | sStart (blockSize maxAttempts : Half)
  /-- `R_START` (R290) -/
  | rStart
  /-- `MODE_DONE ok` (R241, R291) -/
  | modeDone (ok : Byte)
  /-- `S_FILE_DATA data` (R242) -/
  | sFileData (data : List Byte)
  /-- `S_FILE_END name` (R243) -/
  | sFileEnd (name : List Byte)
  /-- `S_BLOCK_DATA data` (R247) -/
  | sBlockData (data : List Byte)
  /-- `EV_RX b` (R244, R248, R249, R252, R292, R294, R295, R297, R300, R302, R303, R304) -/
  | evRx (b : Byte)
  /-- `EV_TIMEOUT` (R245, R250, R253, R293, R299, R308) -/
  | evTimeout
  /-- `EV_IO_ERROR` (R354) -/
  | evIoError
  /-- `EV_ABORT` (R355) -/
  | evAbort
  /-- `REG_READ addr` (R352) -/
  | regRead (addr : Byte)
  /-- `RESET` (R353) -/
  | reset
deriving DecidableEq, Repr

end Sys2Proof
end

