-- ==== Sys2Proof/WellFormed.lean ====
section
/-!
DEFINITION. Which commands can be written on the command port: the length field of a variable-length operand has 16
bits (30_encoding.md R130), so a byte-string operand holds at most 65535 bytes. Fixed-width operands are bounded by
their types. Operand values that a command refuses when it runs (`MODE_DONE` with ok above 1, `REG_READ` of a
reserved address) are legal words and belong to the meanings (45_control.md R356).
-/

namespace Sys2Proof

/-- The byte-string operand of a command, if its format (CD, CHS, CBK) has one. -/
def Instr.byteString : Instr → Option (List Byte)
  | .crcFeed data | .decHs data | .decSess data | .decBlk data => some data
  | .sFileData data | .sFileEnd data | .sBlockData data => some data
  | .encHs _ _ name => some name
  | .encBlk _ _ payload => some payload
  | .crcInit _ | .crcRead | .encSess _ _ | .tokClass _ | .finClass _ _ | .syncArm _ | .syncFeed _
  | .sStart _ _ | .rStart | .modeDone _ | .evRx _ | .evTimeout | .evIoError | .evAbort
  | .regRead _ | .reset => none

/-- A command that the command port can carry: its byte string, if it has one, fits a 16-bit length (R130). -/
abbrev Instr.WellFormed (i : Instr) : Prop :=
  ((i.byteString.getD []).length ≤ 65535)

end Sys2Proof
end

