-- ==== Sys2Proof/Decode.lean ====
section
/-!
DEFINITION. Decoding of the command port's byte strings (30_encoding.md R130, R132 to R134), total on any bytes and
rejecting by name, and after it the encoder written from the same tables. A byte string that is not a whole legal
command is refused by the engine (45_control.md R351, R356); the step function does that.
-/

namespace Sys2Proof

open Sys2Proof.Machine

/-- The opcode byte of each command (R132). -/
def Opcode.byte : Opcode → Byte
  | .crcInit => 0x10
  | .crcFeed => 0x11
  | .crcRead => 0x12
  | .encHs => 0x20
  | .decHs => 0x21
  | .encSess => 0x22
  | .decSess => 0x23
  | .encBlk => 0x24
  | .decBlk => 0x25
  | .tokClass => 0x26
  | .finClass => 0x27
  | .syncArm => 0x30
  | .syncFeed => 0x31
  | .sStart => 0x40
  | .rStart => 0x41
  | .modeDone => 0x42
  | .sFileData => 0x43
  | .sFileEnd => 0x44
  | .sBlockData => 0x45
  | .evRx => 0x50
  | .evTimeout => 0x51
  | .evIoError => 0x52
  | .evAbort => 0x53
  | .regRead => 0x60
  | .reset => 0x61

/-- The format of each command (R132). -/
def Opcode.format : Opcode → Format
  | .crcInit => .c32
  | .crcFeed => .cd
  | .crcRead => .c0
  | .encHs => .chs
  | .decHs => .cd
  | .encSess => .css
  | .decSess => .cd
  | .encBlk => .cbk
  | .decBlk => .cd
  | .tokClass => .c8
  | .finClass => .c8x2
  | .syncArm => .cm
  | .syncFeed => .c8
  | .sStart => .c16x2
  | .rStart => .c0
  | .modeDone => .c8
  | .sFileData => .cd
  | .sFileEnd => .cd
  | .sBlockData => .cd
  | .evRx => .c8
  | .evTimeout => .c0
  | .evIoError => .c0
  | .evAbort => .c0
  | .regRead => .c8
  | .reset => .c0

/-- The rows of the opcode map, in the table's order (R132). -/
def opcodeTable : List Opcode :=
  [.crcInit, .crcFeed, .crcRead, .encHs, .decHs, .encSess, .decSess, .encBlk, .decBlk, .tokClass, .finClass,
   .syncArm, .syncFeed, .sStart, .rStart, .modeDone, .sFileData, .sFileEnd, .sBlockData,
   .evRx, .evTimeout, .evIoError, .evAbort, .regRead, .reset]

/-- The command that an opcode byte names; every value not in the map is reserved (R133). -/
def opcodeOf (b : Byte) : Option Opcode := opcodeTable.find? (fun o => o.byte == b)

/-- The length of a command of a format, from the bytes of the command (R130). The 16-bit length of a
variable-length operand stands at byte 1 (CD), 13 (CHS) or 7 (CBK) (R134). -/
def formatLength : Format → List Byte → Nat
  | .c0, _ => 1
  | .c8, _ => 2
  | .c8x2, _ => 3
  | .c32, _ => 5
  | .cm, _ => 5
  | .c16x2, _ => 5
  | .cd, bs => 3 + (rdLe16 bs 1).toNat
  | .chs, bs => 15 + (rdLe16 bs 13).toNat
  | .css, _ => 13
  | .cbk, bs => 9 + (rdLe16 bs 7).toNat

/-- Why a byte string is no legal command (R351): it is empty, its opcode is reserved, or its length is not its
format's. -/
inductive DecodeError where
  | empty
  | reservedOpcode (op : Byte)
  | wrongLength (expected actual : Nat)
deriving DecidableEq, Repr

/-- The data of a CD operand: bytes 3 to 2+n (R130). -/
def cdData (bs : List Byte) : List Byte := slice bs 3 (rdLe16 bs 1).toNat

/-- The operands of a command of the right length, at their format's byte offsets (R130). -/
def assemble (op : Opcode) (bs : List Byte) : Instr :=
  match op with
  | .crcInit => .crcInit (rdLe32 bs 1)
  | .crcFeed => .crcFeed (cdData bs)
  | .crcRead => .crcRead
  | .encHs => .encHs (rdLe64 bs 1) (rdLe32 bs 9) (slice bs 15 (rdLe16 bs 13).toNat)
  | .decHs => .decHs (cdData bs)
  | .encSess => .encSess (rdLe64 bs 1) (rdLe32 bs 9)
  | .decSess => .decSess (cdData bs)
  | .encBlk => .encBlk (rdLe16 bs 1) (rdLe32 bs 3) (slice bs 9 (rdLe16 bs 7).toNat)
  | .decBlk => .decBlk (cdData bs)
  | .tokClass => .tokClass (byteAt bs 1)
  | .finClass => .finClass (byteAt bs 1) (byteAt bs 2)
  | .syncArm => .syncArm ⟨byteAt bs 1, byteAt bs 2, byteAt bs 3, byteAt bs 4⟩
  | .syncFeed => .syncFeed (byteAt bs 1)
  | .sStart => .sStart (rdLe16 bs 1) (rdLe16 bs 3)
  | .rStart => .rStart
  | .modeDone => .modeDone (byteAt bs 1)
  | .sFileData => .sFileData (cdData bs)
  | .sFileEnd => .sFileEnd (cdData bs)
  | .sBlockData => .sBlockData (cdData bs)
  | .evRx => .evRx (byteAt bs 1)
  | .evTimeout => .evTimeout
  | .evIoError => .evIoError
  | .evAbort => .evAbort
  | .regRead => .regRead (byteAt bs 1)
  | .reset => .reset

/-- The decoder: a whole command or the reason why it is none (R130, R133, R134). -/
def decode (bs : List Byte) : Except DecodeError Instr :=
  match bs with
  | [] => .error .empty
  | b :: _ =>
    match opcodeOf b with
    | none => .error (.reservedOpcode b)
    | some op =>
      if bs.length = formatLength op.format bs then .ok (assemble op bs)
      else .error (.wrongLength (formatLength op.format bs) bs.length)

/-- The opcode of a command. -/
def Instr.opcode : Instr → Opcode
  | .crcInit _ => .crcInit
  | .crcFeed _ => .crcFeed
  | .crcRead => .crcRead
  | .encHs _ _ _ => .encHs
  | .decHs _ => .decHs
  | .encSess _ _ => .encSess
  | .decSess _ => .decSess
  | .encBlk _ _ _ => .encBlk
  | .decBlk _ => .decBlk
  | .tokClass _ => .tokClass
  | .finClass _ _ => .finClass
  | .syncArm _ => .syncArm
  | .syncFeed _ => .syncFeed
  | .sStart _ _ => .sStart
  | .rStart => .rStart
  | .modeDone _ => .modeDone
  | .sFileData _ => .sFileData
  | .sFileEnd _ => .sFileEnd
  | .sBlockData _ => .sBlockData
  | .evRx _ => .evRx
  | .evTimeout => .evTimeout
  | .evIoError => .evIoError
  | .evAbort => .evAbort
  | .regRead _ => .regRead
  | .reset => .reset

/-- A variable-length operand on the command port: its 16-bit length, then its bytes (R130). -/
def lengthPrefixed (s : List Byte) : List Byte := le16 (len16 s) ++ s

/-- The operand bytes of a command, packed little-endian with no padding (R130). -/
def Instr.operandBytes : Instr → List Byte
  | .crcInit seed => le32 seed
  | .crcFeed data => lengthPrefixed data
  | .crcRead => []
  | .encHs total crc name => le64 total ++ le32 crc ++ lengthPrefixed name
  | .decHs bytes => lengthPrefixed bytes
  | .encSess total crc => le64 total ++ le32 crc
  | .decSess bytes => lengthPrefixed bytes
  | .encBlk seq crc payload => le16 seq ++ le32 crc ++ lengthPrefixed payload
  | .decBlk bytes => lengthPrefixed bytes
  | .tokClass b => [b]
  | .finClass b0 b1 => [b0, b1]
  | .syncArm magic => magicBytes magic
  | .syncFeed b => [b]
  | .sStart blockSize maxAttempts => le16 blockSize ++ le16 maxAttempts
  | .rStart => []
  | .modeDone ok => [ok]
  | .sFileData data => lengthPrefixed data
  | .sFileEnd name => lengthPrefixed name
  | .sBlockData data => lengthPrefixed data
  | .evRx b => [b]
  | .evTimeout => []
  | .evIoError => []
  | .evAbort => []
  | .regRead addr => [addr]
  | .reset => []

/-- The encoder: the bytes of a command, opcode first (R130, R132). -/
def encode (i : Instr) : List Byte := i.opcode.byte :: i.operandBytes

/-- The first `n` bytes of an instruction whose bits are `w`, numbered as spec/opcode_table.json numbers them: byte
`i` is bits `8*i+7` to `8*i`. -/
def tableBytesOf (w n : Nat) : List Byte := (List.range n).map (fun i => BitVec.ofNat 8 (w >>> (8 * i)))

/-- The command that an opcode-table word stands for: the table numbers its first `nbits` bits, every later bit is
0, and the command is as long as its opcode and its length field say (R134). The first 15 bytes hold every fixed
offset. A word whose opcode is reserved keeps its own bytes (log 11). -/
def tableCommand (nbits w : Nat) : List Byte :=
  let v := w % 2 ^ nbits
  let head := tableBytesOf v 15
  match opcodeOf (byteAt head 0) with
  | none => tableBytesOf v ((nbits + 7) / 8)
  | some op => tableBytesOf v (formatLength op.format head)

/-- The instruction the decoder reads from an opcode-table word. -/
def decodeTableWord (nbits w : Nat) : Option Instr :=
  match decode (tableCommand nbits w) with
  | .ok i => some i
  | .error _ => none

end Sys2Proof
end

