-- ==== Sys2Proof/Config.lean ====
section
/-!
DEFINITION. The build-time parameters of the engine (00_scope.md R12) and the policy parameters that choose
between readings the source leaves open (R13). They are arguments of the step function, not state (10_state.md
R74); the model carries them in `State.params`, which no step writes (log 1).
-/

namespace Sys2Proof

/-- `BLOCK_WAIT_OTHER` (R13, D17): what a byte that is neither ACK nor NAK means in the block-response wait. -/
inductive BlockWaitOther where
  | asNak
  | ignore
deriving DecidableEq, Repr

/-- `OPEN_TEMP_AT` (R13, D21): when the receiver asks the host to open the temporary file. -/
inductive OpenTempAt where
  | handshakeParsed
  | sessionValidated
deriving DecidableEq, Repr

/-- The parameters of R12 and R13. Durations (R14), `TEMP_SUFFIX` (D41) and the CLI defaults (D49) are the
environment's and the engine never reads them. -/
structure Params where
  /-- `HS_MAGIC` -/
  hsMagic : Bytes4
  /-- `SESS_MAGIC` -/
  sessMagic : Bytes4
  /-- `PROTO_VERSION` -/
  protoVersion : Byte
  /-- `ACK_BYTE` -/
  ackByte : Byte
  /-- `NAK_BYTE` -/
  nakByte : Byte
  /-- `OK_TOKEN` -/
  okToken : Bytes2
  /-- `NO_TOKEN` -/
  noToken : Bytes2
  /-- `BLOCK_WAIT_OTHER` -/
  blockWaitOther : BlockWaitOther
  /-- `OPEN_TEMP_AT` -/
  openTempAt : OpenTempAt
  /-- `RX_READ_DEADLINE` -/
  rxReadDeadline : Bool
deriving DecidableEq, Repr

/-- The three "differs from" constraints of R12, the well-formedness condition on the parameters. -/
abbrev Params.WellFormed (P : Params) : Prop :=
  P.hsMagic ≠ P.sessMagic ∧ P.ackByte ≠ P.nakByte ∧ P.okToken ≠ P.noToken

/-- The reference values of R12 and the defaults of R13: the spec's own choice, used by its test vectors
(95_test_vectors.md). DESIGN CHOICE (log 1): `State.reset` holds them; nothing else depends on them. -/
def Params.reference : Params where
  hsMagic := ⟨0x57, 0x52, 0x48, 0x53⟩
  sessMagic := ⟨0x57, 0x52, 0x53, 0x53⟩
  protoVersion := 0x01
  ackByte := 0x06
  nakByte := 0x15
  okToken := ⟨0x4F, 0x4B⟩
  noToken := ⟨0x4E, 0x4F⟩
  blockWaitOther := .asNak
  openTempAt := .sessionValidated
  rxReadDeadline := true

end Sys2Proof
end

