-- ==== Sys2Proof/Machine/State.lean ====
section
/-!
DEFINITION. The architectural state (10_state.md), the outputs (30_encoding.md R135) and responses (R131) of a step,
the reasons a step of the model can stop, and the state after reset (70_reset_and_hazards.md R450). Field names are
the spec's. The codes of the closed sets are in Machine/Flags.lean.
-/

namespace Sys2Proof.Machine

open Sys2Proof

/-- The state codes of 10_state.md R32, transient ones included; the numeric codes are `stateByte`. -/
inductive StateCode where
  | idle
  | sModePending
  | sModeEntered
  | sHandshakeSent
  | sAwaitHsAck
  | sSessionSent
  | sNeedData
  | sAwaitResp
  | sAwaitFinal
  | sDone
  | sFailed
  | rModePending
  | rModeEntered
  | rSyncHs
  | rReadHsFixed
  | rReadHsName
  | rHsParsed
  | rAckSent
  | rSyncSess
  | rReadSess
  | rSessionValidated
  | rBlkHdr
  | rBlkPayload
  | rBlkCrc
  | rFinalCheck
  | rCommitted
  | rKeptPartial
  | rFailed
deriving DecidableEq, Repr

/-- The kinds of state of R32. -/
inductive StateKind where
  | resting
  | transient
  | terminal
deriving DecidableEq, Repr

/-- `role` (10_state.md R33): 0 none, 1 sender, 2 receiver. Value 3 is never held. -/
inductive Role where
  | none
  | sender
  | receiver
deriving DecidableEq, Repr

/-- The error codes 0 to 8 of 60_exceptions.md R400. Codes 9 to 255 are never written. -/
inductive ErrorCode where
  | none
  | configError
  | linkTimeout
  | protocolMismatch
  | integrityBlock
  | integrityFile
  | retryExhausted
  | ioError
  | interrupted
deriving DecidableEq, Repr

/-- The deadline kinds 0 to 6 of 60_exceptions.md R412. Kind 7 is never held. -/
inductive TimerKind where
  | none
  | hsAck
  | blockResp
  | final
  | hsSync
  | sessSync
  | rxRead
deriving DecidableEq, Repr

/-- `r_verdict` (10_state.md R63): the verdict of the last complete block. -/
inductive Verdict where
  | none
  | accepted
  | badSeq
  | badCrc
  | badBoth
deriving DecidableEq, Repr

/-- The outputs of R135. -/
inductive Output where
  /-- `TX(s)`: append `s` to the transmit direction of the channel. -/
  | tx (s : List Byte)
  /-- `MODE_REQ(r)`: ask the Mode Switch Negotiator, for role 1 or 2. -/
  | modeReq (r : Role)
  /-- `TIMER_ARM(k)`: start the deadline of kind `k`, replacing any armed one. -/
  | timerArm (k : TimerKind)
  /-- `TIMER_STOP`: cancel the armed deadline. -/
  | timerStop
  /-- `DATA_REQ(n)`: ask the host for the next `n` source-file bytes. -/
  | dataReq (n : Half)
  /-- `OPEN_TEMP(name)`: resolve the output path and open the temporary sibling. -/
  | openTemp (name : List Byte)
  /-- `WRITE_TEMP(p)`: append `p` to the temporary file. -/
  | writeTemp (p : List Byte)
  /-- `COMMIT`: delete-then-rename promotion. -/
  | commit
  /-- `KEEP_PARTIAL`: leave the temporary file in place. -/
  | keepPartial
  /-- `END(code)`: the transfer has reached a terminal state. -/
  | endTransfer (code : ErrorCode)
deriving DecidableEq, Repr

/-- The response statuses of R131. -/
inductive Status where
  | ok
  | formatError
  | notAccepted
  | rejected
deriving DecidableEq, Repr

/-- A response: a status and the result bytes (R131). -/
structure Response where
  status : Status
  result : List Byte
deriving DecidableEq, Repr

/-- Why the model's engine stops with a fault. The engine's own fatal conditions are no model faults: they are
terminal states (60_exceptions.md R423). -/
inductive Fault where
  /-- Raised by EV_TIMEOUT alone: a deadline is armed in a state that 45_control.md R359 gives no EV_TIMEOUT arm.
  The spec gives no effect there and R357 says no run holds such a state. Safe (log 6). -/
  | timeoutWithoutArm
deriving DecidableEq, Repr

/-- Why the model refuses to step. -/
inductive Refusal where
  /-- Raised by an arm of `exec` for an instruction that has no meaning yet; no arm does. Safe. -/
  | notModelled (mnemonic : String)
  /-- Raised by `step` alone: the parameters violate a "differs from" constraint of 00_scope.md R12, and "A model
  refuses a configuration that violates any of them." Safe (log 5). -/
  | illFormedParameters
deriving DecidableEq, Repr

/-- The state of one engine. Every field of 10_state.md stands here under the spec's name; `params` holds the
step function's build-time arguments (R74); the last three fields are the model's ports. -/
structure State where
  /-- The build-time parameters, hardwired (R70, R74); no step writes them (log 1). -/
  params : Params
  /-- The state register, 8 bits (R31, R32). -/
  state : StateCode
  /-- The role of this engine for the transfer, 2 bits (R33). -/
  role : Role
  /-- The latched error code, 8 bits (R34). -/
  error : ErrorCode
  /-- The sticky illegal-command flag (R35). -/
  illegal : Bool
  /-- The armed deadline's kind, 3 bits (R36). -/
  timer_kind : TimerKind
  /-- Set once OPEN_TEMP has been emitted (R37). -/
  temp_open : Bool
  /-- The configured block size (R40). -/
  s_block : Half
  /-- The configured maximum attempt count (R41). -/
  s_maxatt : Half
  /-- The total file size counted in the CRC pass (R42). -/
  s_total : Dword
  /-- The whole-file CRC32 accumulated in the pass (R43). -/
  s_fcrc : Word
  /-- The file name (R44). -/
  s_name : List Byte
  /-- The outbound sequence number (R45). -/
  s_seq : Half
  /-- The attempt counter (R46). -/
  s_att : Half
  /-- The number of file bytes acknowledged (R47). -/
  s_sent : Dword
  /-- The payload length of the current block (R48). -/
  s_curlen : Half
  /-- The retransmission buffer (R49). -/
  s_frame : List Byte
  /-- The final status token being collected (R50). -/
  s_fin : List Byte
  /-- The state machine's sync window (R51). -/
  e_win : List Byte
  /-- The fixed-size read buffer (R52). -/
  r_buf : List Byte
  /-- The handshake's version byte (R53). -/
  r_version : Byte
  /-- The handshake's name length (R54). -/
  r_name_len : Half
  /-- The handshake's total size (R55). -/
  r_total : Dword
  /-- The handshake's whole-file CRC32 (R56). -/
  r_fcrc : Word
  /-- The handshake's name (R57). -/
  r_name : List Byte
  /-- The expected sequence counter (R58). -/
  r_exp_seq : Half
  /-- The count of payload bytes accepted, a natural number (R59). -/
  r_count : Nat
  /-- The running CRC32 over accepted payloads (R60). -/
  r_run_crc : Word
  /-- The sequence field of the block being read (R61). -/
  r_blk_seq : Half
  /-- The length field of the block being read (R61). -/
  r_blk_len : Half
  /-- The payload of the block being read (R62). -/
  r_payload : List Byte
  /-- The verdict of the last complete block (R63). -/
  r_verdict : Verdict
  /-- The standalone CRC register (R64). -/
  crc_unit : Word
  /-- The standalone scanner's magic (R65). -/
  sc_magic : Bytes4
  /-- The standalone scanner's window (R65). -/
  sc_win : List Byte
  /-- The standalone scanner is armed (R65). -/
  sc_armed : Bool
  /-- The result of the last SYNC_FEED (R65). -/
  sc_matched : Bool
  /-- MODEL's own: the commands written on the command port and not yet taken, oldest first (R9; log 2). -/
  cmd_port : List (List Byte)
  /-- MODEL's own: every output emitted so far, oldest first (R86; log 3). -/
  outputs : List Output
  /-- MODEL's own: every response given so far, oldest first (R131; log 3). -/
  responses : List Response
deriving DecidableEq, Repr

/-- The machine right after power-on (70_reset_and_hazards.md R450), with the reference parameters (log 1), nothing
on the command port and nothing emitted yet (logs 2 and 3). -/
def State.reset : State where
  params := Params.reference
  state := .idle
  role := .none
  error := .none
  illegal := false
  timer_kind := .none
  temp_open := false
  s_block := 0
  s_maxatt := 0
  s_total := 0
  s_fcrc := 0
  s_name := []
  s_seq := 0
  s_att := 0
  s_sent := 0
  s_curlen := 0
  s_frame := []
  s_fin := []
  e_win := []
  r_buf := []
  r_version := 0
  r_name_len := 0
  r_total := 0
  r_fcrc := 0
  r_name := []
  r_exp_seq := 0
  r_count := 0
  r_run_crc := 0
  r_blk_seq := 0
  r_blk_len := 0
  r_payload := []
  r_verdict := .none
  crc_unit := 0
  sc_magic := ⟨0, 0, 0, 0⟩
  sc_win := []
  sc_armed := false
  sc_matched := false
  cmd_port := []
  outputs := []
  responses := []

/-- What one step, or one instruction, answers. -/
abbrev Result := Host.Outcome State Fault Refusal

end Sys2Proof.Machine
end

