-- ==== Sys2Proof/Machine/Flags.lean ====
section
/-!
DEFINITION. The numeric codes of the closed sets (10_state.md R32, R33, R63; 60_exceptions.md R400, R412; 30_encoding.md
R131), the status flags (R38, R67), the STATUS word (R68) and the register map (R69).
-/

namespace Sys2Proof.Machine

open Sys2Proof

/-- The numeric state code (R32). -/
def stateByte : StateCode → Byte
  | .idle => 0x00
  | .sModePending => 0x01
  | .sModeEntered => 0x02
  | .sHandshakeSent => 0x03
  | .sAwaitHsAck => 0x04
  | .sSessionSent => 0x05
  | .sNeedData => 0x06
  | .sAwaitResp => 0x07
  | .sAwaitFinal => 0x08
  | .sDone => 0x09
  | .sFailed => 0x0A
  | .rModePending => 0x11
  | .rModeEntered => 0x12
  | .rSyncHs => 0x13
  | .rReadHsFixed => 0x14
  | .rReadHsName => 0x15
  | .rHsParsed => 0x16
  | .rAckSent => 0x17
  | .rSyncSess => 0x18
  | .rReadSess => 0x19
  | .rSessionValidated => 0x1A
  | .rBlkHdr => 0x1B
  | .rBlkPayload => 0x1C
  | .rBlkCrc => 0x1D
  | .rFinalCheck => 0x1E
  | .rCommitted => 0x1F
  | .rKeptPartial => 0x20
  | .rFailed => 0x21

/-- The kind of each state: resting, transient (never stored) or terminal (R32). -/
def stateKind : StateCode → StateKind
  | .idle | .sModePending | .sModeEntered | .sAwaitHsAck | .sNeedData | .sAwaitResp | .sAwaitFinal => .resting
  | .rModePending | .rSyncHs | .rReadHsFixed | .rReadHsName | .rSyncSess | .rReadSess => .resting
  | .rBlkHdr | .rBlkPayload | .rBlkCrc => .resting
  | .sHandshakeSent | .sSessionSent => .transient
  | .rModeEntered | .rHsParsed | .rAckSent | .rSessionValidated | .rFinalCheck => .transient
  | .sDone | .sFailed | .rCommitted | .rKeptPartial | .rFailed => .terminal

/-- The role column of R32. -/
def stateRole : StateCode → Role
  | .idle => .none
  | .sModePending | .sModeEntered | .sHandshakeSent | .sAwaitHsAck | .sSessionSent | .sNeedData => .sender
  | .sAwaitResp | .sAwaitFinal | .sDone | .sFailed => .sender
  | .rModePending | .rModeEntered | .rSyncHs | .rReadHsFixed | .rReadHsName | .rHsParsed | .rAckSent => .receiver
  | .rSyncSess | .rReadSess | .rSessionValidated | .rBlkHdr | .rBlkPayload | .rBlkCrc => .receiver
  | .rFinalCheck | .rCommitted | .rKeptPartial | .rFailed => .receiver

/-- The 2-bit role code (R33). -/
def roleBits : Role → BitVec 2
  | .none => 0
  | .sender => 1
  | .receiver => 2

/-- The 8-bit error code (R400). -/
def errorByte : ErrorCode → Byte
  | .none => 0
  | .configError => 1
  | .linkTimeout => 2
  | .protocolMismatch => 3
  | .integrityBlock => 4
  | .integrityFile => 5
  | .retryExhausted => 6
  | .ioError => 7
  | .interrupted => 8

/-- The 3-bit deadline kind (R412). -/
def timerBits : TimerKind → BitVec 3
  | .none => 0
  | .hsAck => 1
  | .blockResp => 2
  | .final => 3
  | .hsSync => 4
  | .sessSync => 5
  | .rxRead => 6

/-- The 8-bit verdict (R63). -/
def verdictByte : Verdict → Byte
  | .none => 0
  | .accepted => 1
  | .badSeq => 2
  | .badCrc => 3
  | .badBoth => 4

/-- The response status byte (R131). -/
def statusByte : Status → Byte
  | .ok => 0x00
  | .formatError => 0x01
  | .notAccepted => 0x02
  | .rejected => 0xFF

/-- A response as the bytes the host reads: the status byte, then the result (R131). -/
def responseBytes (r : Response) : List Byte := statusByte r.status :: r.result

/-- A byte string operand of an output: a 32-bit length, then the bytes (R135). -/
def outputString (s : List Byte) : List Byte := le32 (BitVec.ofNat 32 s.length) ++ s

/-- The trace encoding of an output: a tag byte, then the operands (R135). The operands r, k and code take one byte
and n two, little-endian (DEDUCED, log 12). -/
def outputBytes : Output → List Byte
  | .tx s => 0x80 :: outputString s
  | .modeReq r => [0x81, (roleBits r).setWidth 8]
  | .timerArm k => [0x82, (timerBits k).setWidth 8]
  | .timerStop => [0x83]
  | .dataReq n => 0x84 :: le16 n
  | .openTemp name => 0x85 :: outputString name
  | .writeTemp p => 0x86 :: outputString p
  | .commit => [0x87]
  | .keepPartial => [0x88]
  | .endTransfer code => [0x89, errorByte code]

/-- TERMINAL (R67): 1 exactly when `state` is a terminal code. -/
def isTerminal (c : StateCode) : Bool := stateKind c == .terminal

/-- RX_READY (R38): the states in which the engine is blocked reading the channel. -/
def rxReady : StateCode → Bool
  | .sAwaitHsAck | .sAwaitResp | .sAwaitFinal => true
  | .rSyncHs | .rReadHsFixed | .rReadHsName | .rSyncSess | .rReadSess | .rBlkHdr | .rBlkPayload | .rBlkCrc => true
  | .idle | .sModePending | .sModeEntered | .sHandshakeSent | .sSessionSent | .sNeedData | .sDone | .sFailed => false
  | .rModePending | .rModeEntered | .rHsParsed | .rAckSent | .rSessionValidated | .rFinalCheck => false
  | .rCommitted | .rKeptPartial | .rFailed => false

/-- The states in which the six exact-count reads rest (R317, R308). -/
def readState : StateCode → Bool
  | .rReadHsFixed | .rReadHsName | .rReadSess | .rBlkHdr | .rBlkPayload | .rBlkCrc => true
  | .idle | .sModePending | .sModeEntered | .sHandshakeSent | .sAwaitHsAck | .sSessionSent | .sNeedData => false
  | .sAwaitResp | .sAwaitFinal | .sDone | .sFailed => false
  | .rModePending | .rModeEntered | .rSyncHs | .rHsParsed | .rAckSent | .rSyncSess | .rSessionValidated => false
  | .rFinalCheck | .rCommitted | .rKeptPartial | .rFailed => false

/-- A 1-bit flag. -/
def bit (b : Bool) : BitVec 1 := BitVec.ofBool b

/-- The STATUS word (R68): bits [7:0] STATE, [15:8] ERROR, [17:16] ROLE, [18] TERMINAL, [19] ILLEGAL_CMD,
[20] RX_READY, [23:21] TIMER_KIND, [24] TEMP_OPEN, [63:25] read 0. -/
def statusWord (s : State) : Dword :=
  0#39 ++ bit s.temp_open ++ timerBits s.timer_kind ++ bit (rxReady s.state) ++ bit s.illegal
    ++ bit (isTerminal s.state) ++ roleBits s.role ++ errorByte s.error ++ stateByte s.state

/-- R_FILL (R69): [15:0] `|r_buf|`, [31:16] `|r_payload|`, [34:32] `|e_win|`. -/
def fillWord (s : State) : Dword :=
  0#29 ++ BitVec.ofNat 3 s.e_win.length ++ len16 s.r_payload ++ len16 s.r_buf

/-- SYNC_STATE (R69): `sc_win[i]` at bits [8i+7:8i], [34:32] `|sc_win|`, [35] `sc_armed`, [36] `sc_matched`. -/
def syncWord (s : State) : Dword :=
  0#27 ++ bit s.sc_matched ++ bit s.sc_armed ++ BitVec.ofNat 3 s.sc_win.length ++ rdLe32 s.sc_win 0

/-- CFG_POLICY (R69): [0] `BLOCK_WAIT_OTHER = Ignore`, [1] `OPEN_TEMP_AT = HandshakeParsed`,
[2] `RX_READ_DEADLINE = true`. -/
def policyWord (P : Params) : Dword :=
  0#61 ++ bit P.rxReadDeadline ++ bit (P.openTempAt == .handshakeParsed) ++ bit (P.blockWaitOther == .ignore)

/-- The register map (R69): the 64-bit value, zero-extended, at each defined address; none at a reserved one. -/
def regValue (s : State) (addr : Byte) : Option Dword :=
  match addr.toNat with
  | 0x00 => some (statusWord s)
  | 0x01 => some (s.s_block.setWidth 64)
  | 0x02 => some (s.s_maxatt.setWidth 64)
  | 0x03 => some (s.s_seq.setWidth 64)
  | 0x04 => some (s.s_att.setWidth 64)
  | 0x05 => some s.s_total
  | 0x06 => some (s.s_fcrc.setWidth 64)
  | 0x07 => some s.s_sent
  | 0x08 => some (s.s_curlen.setWidth 64)
  | 0x09 => some (BitVec.ofNat 64 s.s_name.length)
  | 0x0A => some (BitVec.ofNat 64 s.s_fin.length)
  | 0x10 => some (s.r_exp_seq.setWidth 64)
  | 0x11 => some s.r_total
  | 0x12 => some (s.r_fcrc.setWidth 64)
  | 0x13 => some (BitVec.ofNat 64 s.r_count)
  | 0x14 => some (s.r_run_crc.setWidth 64)
  | 0x15 => some (s.r_name_len.setWidth 64)
  | 0x16 => some (s.r_version.setWidth 64)
  | 0x17 => some ((verdictByte s.r_verdict).setWidth 64)
  | 0x18 => some (s.r_blk_seq.setWidth 64)
  | 0x19 => some (s.r_blk_len.setWidth 64)
  | 0x1A => some (fillWord s)
  | 0x20 => some (s.crc_unit.setWidth 64)
  | 0x21 => some (syncWord s)
  | 0x22 => some ((rdLe32 (magicBytes s.sc_magic) 0).setWidth 64)
  | 0x30 => some (s.params.protoVersion.setWidth 64)
  | 0x31 => some ((s.params.nakByte ++ s.params.ackByte).setWidth 64)
  | 0x32 => some ((rdLe16 (tokenBytes s.params.noToken) 0 ++ rdLe16 (tokenBytes s.params.okToken) 0).setWidth 64)
  | 0x33 => some ((rdLe32 (magicBytes s.params.hsMagic) 0).setWidth 64)
  | 0x34 => some ((rdLe32 (magicBytes s.params.sessMagic) 0).setWidth 64)
  | 0x35 => some (policyWord s.params)
  | _ => none

end Sys2Proof.Machine
end

