-- ==== Sys2Proof/Machine/Ops.lean ====
section
/-!
DEFINITION. The shared operations of a step: emitting outputs and responding (00_scope.md R20), the timer procedures
(60_exceptions.md R413), the refusal (45_control.md R356), the port events that are not enabled (60_exceptions.md R414),
FATAL ENTRY, which is this hardware's way of taking an exception (60_exceptions.md R403), and beside it RESET, the only
way out of the state a fatal entry leaves (R405, 70_reset_and_hazards.md R451): there is no return from one.
-/

namespace Sys2Proof.Machine

open Sys2Proof

/-- `emit O` (R20): append `O` to the ordered output list. -/
def emit (o : Output) (s : State) : State := { s with outputs := s.outputs ++ [o] }

/-- `respond(st, bytes)` (R20, R131). -/
def respond (st : Status) (bytes : List Byte) (s : State) : State :=
  { s with responses := s.responses ++ [⟨st, bytes⟩] }

/-- The step answers `st` with `bytes` and goes on in `s`. -/
def answer (st : Status) (bytes : List Byte) (s : State) : Result := .next (respond st bytes s)

/-- An accepted command with an empty result: `respond(OK, [])` after its pseudocode, also when that raised Fatal
(R403). -/
def accepted (s : State) : Result := answer .ok [] s

/-- A port event that is not enabled: NOT_ACCEPTED, and the step changes nothing (R351, R414). -/
def notAccepted (s : State) : Result := answer .notAccepted [] s

/-- `refuse()` (R356): set the sticky flag and answer REJECTED; nothing else changes and nothing is emitted. -/
def refuse (s : State) : Result := answer .rejected [] { s with illegal := true }

/-- `state <- X` (R31). -/
def setState (c : StateCode) (s : State) : State := { s with state := c }

/-- `armTimer(k)` (R413): TIMER_ARM starts the deadline, replacing any armed one with no TIMER_STOP in between. -/
def armTimer (k : TimerKind) (s : State) : State :=
  { s with timer_kind := k, outputs := s.outputs ++ [.timerArm k] }

/-- What `stopTimer` emits: TIMER_STOP if a deadline is armed, nothing otherwise (R413). -/
def stopOutputs : TimerKind → List Output
  | .none => []
  | _ => [.timerStop]

/-- `stopTimer()` (R413). -/
def stopTimer (s : State) : State :=
  { s with timer_kind := .none, outputs := s.outputs ++ stopOutputs s.timer_kind }

/-- The terminal state of a fatal entry (R403): by the role alone. -/
def failedState : Role → StateCode
  | .sender => .sFailed
  | .none | .receiver => .rFailed

/-- `raise Fatal(k)` (R403): stop the deadline if one is armed, latch the error, go to the terminal state, emit
END(k). Every other field keeps its value; nothing is transmitted. A rule that raises returns this state, so the rest
of its pseudocode is not run. -/
def raiseFatal (k : ErrorCode) (s : State) : State :=
  emit (.endTransfer k) { stopTimer s with error := k, state := failedState s.role }

/-- RESET (R353): TIMER_STOP if a deadline was armed, then every field of 10_state.md at its reset value (R450). The
parameters and the ports are not fields of 10_state.md and stay (R70, R452). -/
def resetFields (s : State) : State :=
  { State.reset with
    params := s.params
    cmd_port := s.cmd_port
    outputs := s.outputs ++ stopOutputs s.timer_kind
    responses := s.responses }

end Sys2Proof.Machine
end

