-- ==== Sys2Proof/Machine/Codec.lean ====
section
/-!
DEFINITION. The frame codec (41_codec.md): the three frames' encoders and decoders (R180 to R185, layouts 30_encoding.md
R110 to R112), the control-token classes (R186), and the standalone codec commands (R190 to R197), each a pure
function of its operands and the parameters. A decoder answers none for FormatError.
-/

namespace Sys2Proof.Machine

open Sys2Proof

/-- The record of a decoded HandshakeFrame (R181). -/
structure HandshakeFrame where
  version : Byte
  nameLen : Half
  totalSize : Dword
  fileCrc32 : Word
  name : List Byte
  consumed : Nat
deriving DecidableEq, Repr

/-- The record of a decoded SessionFrame (R183). -/
structure SessionFrame where
  version : Byte
  totalSize : Dword
  fileCrc32 : Word
  consumed : Nat
deriving DecidableEq, Repr

/-- The record of a decoded BlockFrame (R185). -/
structure BlockFrame where
  seq : Half
  len : Half
  payload : List Byte
  blockCrc32 : Word
  consumed : Nat
deriving DecidableEq, Repr

/-- `encodeHandshake` (R180). -/
def encodeHandshake (P : Params) (name : List Byte) (totalSize : Dword) (fcrc : Word) : List Byte :=
  magicBytes P.hsMagic ++ [P.protoVersion] ++ le16 (len16 name) ++ le64 totalSize ++ le32 fcrc ++ name

/-- `decodeHandshake` (R181); the version is not checked, trailing bytes are ignored. -/
def decodeHandshake (P : Params) (s : List Byte) : Option HandshakeFrame :=
  if s.length < 19 then none
  else if slice s 0 4 ≠ magicBytes P.hsMagic then none
  else if s.length < 19 + (rdLe16 s 5).toNat then none
  else some
    { version := byteAt s 4
      nameLen := rdLe16 s 5
      totalSize := rdLe64 s 7
      fileCrc32 := rdLe32 s 15
      name := slice s 19 (rdLe16 s 5).toNat
      consumed := 19 + (rdLe16 s 5).toNat }

/-- `encodeSession` (R182). -/
def encodeSession (P : Params) (totalSize : Dword) (fcrc : Word) : List Byte :=
  magicBytes P.sessMagic ++ [P.protoVersion] ++ le64 totalSize ++ le32 fcrc

/-- `decodeSession` (R183). -/
def decodeSession (P : Params) (s : List Byte) : Option SessionFrame :=
  if s.length < 17 then none
  else if slice s 0 4 ≠ magicBytes P.sessMagic then none
  else some { version := byteAt s 4, totalSize := rdLe64 s 5, fileCrc32 := rdLe32 s 13, consumed := 17 }

/-- `encodeBlock` (R184); the caller supplies the CRC. -/
def encodeBlock (seq : Half) (payload : List Byte) (bcrc : Word) : List Byte :=
  le16 seq ++ le16 (len16 payload) ++ payload ++ le32 bcrc

/-- `decodeBlock` (R185); neither the CRC nor the sequence number is checked. -/
def decodeBlock (s : List Byte) : Option BlockFrame :=
  if s.length < 4 then none
  else if s.length < 8 + (rdLe16 s 2).toNat then none
  else some
    { seq := rdLe16 s 0
      len := rdLe16 s 2
      payload := slice s 4 (rdLe16 s 2).toNat
      blockCrc32 := rdLe32 s (4 + (rdLe16 s 2).toNat)
      consumed := 8 + (rdLe16 s 2).toNat }

/-- The classes of a single control byte (R186). -/
inductive TokClass where
  | ack
  | nak
  | other
deriving DecidableEq, Repr

/-- `tokClass(b)` (R186). -/
def tokClass (P : Params) (b : Byte) : TokClass :=
  if b = P.ackByte then .ack else if b = P.nakByte then .nak else .other

/-- The classes of a two-byte final status token (R186). -/
inductive FinClass where
  | ok
  | no
  | malformed
deriving DecidableEq, Repr

/-- `finClass(t)` (R186). -/
def finClass (P : Params) (t : List Byte) : FinClass :=
  if t = tokenBytes P.okToken then .ok else if t = tokenBytes P.noToken then .no else .malformed

/-- The result byte of TOK_CLASS (R196). -/
def tokClassByte : TokClass → Byte
  | .ack => 1
  | .nak => 2
  | .other => 0

/-- The result byte of FIN_CLASS (R197). -/
def finClassByte : FinClass → Byte
  | .ok => 1
  | .no => 2
  | .malformed => 0

/-- ENC_HS (R190). -/
def execEncHs (total : Dword) (fcrc : Word) (name : List Byte) (s : State) : Result :=
  answer .ok (encodeHandshake s.params name total fcrc) s

/-- DEC_HS (R191). -/
def execDecHs (bytes : List Byte) (s : State) : Result :=
  match decodeHandshake s.params bytes with
  | none => answer .formatError [] s
  | some f => answer .ok ([f.version] ++ le16 f.nameLen ++ le64 f.totalSize ++ le32 f.fileCrc32 ++ f.name) s

/-- ENC_SESS (R192). -/
def execEncSess (total : Dword) (fcrc : Word) (s : State) : Result :=
  answer .ok (encodeSession s.params total fcrc) s

/-- DEC_SESS (R193). -/
def execDecSess (bytes : List Byte) (s : State) : Result :=
  match decodeSession s.params bytes with
  | none => answer .formatError [] s
  | some f => answer .ok ([f.version] ++ le64 f.totalSize ++ le32 f.fileCrc32) s

/-- ENC_BLK (R194). -/
def execEncBlk (seq : Half) (bcrc : Word) (payload : List Byte) (s : State) : Result :=
  answer .ok (encodeBlock seq payload bcrc) s

/-- DEC_BLK (R195). -/
def execDecBlk (bytes : List Byte) (s : State) : Result :=
  match decodeBlock bytes with
  | none => answer .formatError [] s
  | some f => answer .ok (le16 f.seq ++ le16 f.len ++ le32 f.blockCrc32 ++ f.payload) s

/-- TOK_CLASS (R196). -/
def execTokClass (b : Byte) (s : State) : Result := answer .ok [tokClassByte (tokClass s.params b)] s

/-- FIN_CLASS (R197). -/
def execFinClass (b0 b1 : Byte) (s : State) : Result :=
  answer .ok [finClassByte (finClass s.params [b0, b1])] s

end Sys2Proof.Machine
end

