-- ==== Sys2Proof/Machine/Crc.lean ====
section
/-!
DEFINITION. The CRC engine (40_crc.md): the one-byte update R160, the fold R161 that both roles use (R168), and the
standalone unit's commands CRC_INIT, CRC_FEED and CRC_READ (R163 to R165).
-/

namespace Sys2Proof.Machine

open Sys2Proof

/-- The reflected CRC-32 polynomial (R15, R160; log 8). -/
def crcPoly : Word := 0xEDB88320

/-- The complement that un-finalizes and finalizes a CRC value (R160). -/
def crcMask : Word := 0xFFFFFFFF

/-- One iteration of the loop of R160. -/
def crcShift (c : Word) : Word := if c.getLsbD 0 then (c >>> 1) ^^^ crcPoly else c >>> 1

/-- `n` iterations of the loop of R160. -/
def crcLoop : Nat → Word → Word
  | 0, c => c
  | n + 1, c => crcLoop n (crcShift c)

/-- `crcStep(r, b)` (R160): un-finalize, take the byte in at bits [7:0], eight iterations, finalize. -/
def crcStep (r : Word) (b : Byte) : Word := crcLoop 8 ((r ^^^ crcMask) ^^^ b.setWidth 32) ^^^ crcMask

/-- `crc(s, seed)` (R161): a left fold of `crcStep` over the bytes in order. -/
def crc : List Byte → Word → Word
  | [], seed => seed
  | b :: s, seed => crc s (crcStep seed b)

/-- CRC_INIT (R163). -/
def execCrcInit (seed : Word) (s : State) : Result := accepted { s with crc_unit := seed }

/-- CRC_FEED (R164). -/
def execCrcFeed (data : List Byte) (s : State) : Result := accepted { s with crc_unit := crc data s.crc_unit }

/-- CRC_READ (R165). -/
def execCrcRead (s : State) : Result := answer .ok (le32 s.crc_unit) s

end Sys2Proof.Machine
end

