-- ==== Sys2Proof/Machine/Sync.lean ====
section
/-!
DEFINITION. The magic sync scanner (42_sync.md): the scan function R220, which the receiver's syncs use too (R226), and
the standalone commands SYNC_ARM and SYNC_FEED (R222, R223).
-/

namespace Sys2Proof.Machine

open Sys2Proof

/-- `scanStep(win, magic, b)` (R220): the window of the last 4 bytes, and whether it equals the magic. -/
def scanStep (win : List Byte) (magic : Bytes4) (b : Byte) : List Byte × Bool :=
  let w := lastN 4 (win ++ [b])
  (w, w.length == 4 && w == magicBytes magic)

/-- SYNC_ARM (R222). -/
def execSyncArm (magic : Bytes4) (s : State) : Result :=
  accepted { s with sc_magic := magic, sc_win := [], sc_armed := true, sc_matched := false }

/-- SYNC_FEED (R223): refused while not armed; a match disarms the unit. -/
def execSyncFeed (b : Byte) (s : State) : Result :=
  if s.sc_armed then
    let r := scanStep s.sc_win s.sc_magic b
    if r.2 then answer .ok [1] { s with sc_win := [], sc_armed := false, sc_matched := true }
    else answer .ok [0] { s with sc_win := r.1, sc_matched := false }
  else refuse s

end Sys2Proof.Machine
end

