-- ==== Sys2Proof/Machine/Receiver.lean ====
section
/-!
DEFINITION. The receiver (44_receiver.md): R_START (R290), the receiver's arms of MODE_DONE (R291), EV_RX (R292, R294,
R295, R297, R300, R302, R303, R304) and EV_TIMEOUT (R293, R299, R308), and the procedures startRead (R317), openTemp
(R298), hsComplete (R296), blockLoop (R301), accept (R305), reject (R306) and finalCheck (R307).
-/

namespace Sys2Proof.Machine

open Sys2Proof

/-- The pseudocode of R_START (R290). -/
def receiverStart (s : State) : State :=
  setState .rModePending (emit (.modeReq .receiver) { s with role := .receiver })

/-- R_START (R290): accepted in IDLE. -/
def execRStart (s : State) : Result :=
  match s.state with
  | .idle => accepted (receiverStart s)
  | _ => refuse s

/-- MODE_DONE at the receiver (R291). -/
def receiverModeDone (ok : Byte) (s : State) : State :=
  if ok = 0 then raiseFatal .linkTimeout s
  else setState .rSyncHs (armTimer .hsSync { s with e_win := [] })

/-- `startRead(st)` (R317): begin an exact-count read, with its own deadline when `RX_READ_DEADLINE`. -/
def startRead (c : StateCode) (s : State) : State :=
  let s := { s with r_buf := [] }
  setState c (if s.params.rxReadDeadline then armTimer .rxRead s else stopTimer s)

/-- `openTemp()` (R298). -/
def openTemp (s : State) : State := emit (.openTemp s.r_name) { s with temp_open := true }

/-- `hsComplete()` (R296): a version mismatch transmits nothing; otherwise ACK and scan for the session magic. -/
def hsComplete (s : State) : State :=
  if s.r_version ≠ s.params.protoVersion then raiseFatal .protocolMismatch s
  else
    let s := match s.params.openTempAt with
      | .handshakeParsed => openTemp s
      | .sessionValidated => s
    setState .rSyncSess (armTimer .sessSync { emit (.tx [s.params.ackByte]) s with e_win := [] })

/-- EV_RX in R_SYNC_HS (R292). -/
def rxSyncHs (b : Byte) (s : State) : State :=
  let r := scanStep s.e_win s.params.hsMagic b
  if r.2 then startRead .rReadHsFixed { s with e_win := [] } else { s with e_win := r.1 }

/-- EV_TIMEOUT in R_SYNC_HS (R293). -/
def timeoutSyncHs (s : State) : State := raiseFatal .linkTimeout s

/-- EV_RX in R_READ_HS_FIXED (R294): the 15 remaining fixed bytes of the handshake. -/
def rxReadHsFixed (b : Byte) (s : State) : State :=
  let s := { s with r_buf := s.r_buf ++ [b] }
  if s.r_buf.length = 15 then
    let s :=
      { s with
        r_version := byteAt s.r_buf 0
        r_name_len := rdLe16 s.r_buf 1
        r_total := rdLe64 s.r_buf 3
        r_fcrc := rdLe32 s.r_buf 11
        r_name := [] }
    if s.r_name_len = 0 then hsComplete s else startRead .rReadHsName s
  else s

/-- EV_RX in R_READ_HS_NAME (R295). -/
def rxReadHsName (b : Byte) (s : State) : State :=
  let s := { s with r_name := s.r_name ++ [b] }
  if s.r_name.length = s.r_name_len.toNat then hsComplete s else s

/-- EV_RX in R_SYNC_SESS (R297). -/
def rxSyncSess (b : Byte) (s : State) : State :=
  let r := scanStep s.e_win s.params.sessMagic b
  if r.2 then startRead .rReadSess { s with e_win := [] } else { s with e_win := r.1 }

/-- EV_TIMEOUT in R_SYNC_SESS (R299). -/
def timeoutSyncSess (s : State) : State := raiseFatal .linkTimeout s

/-- `finalCheck()` (R307): COMMIT and the OK token, or the NO token and KEEP_PARTIAL. -/
def finalCheck (s : State) : State :=
  let s := stopTimer s
  if s.r_run_crc = s.r_fcrc then
    emit (.endTransfer .none)
      (setState .rCommitted (emit (.tx (tokenBytes s.params.okToken)) (emit .commit s)))
  else
    emit (.endTransfer .integrityFile)
      (setState .rKeptPartial
        { emit .keepPartial (emit (.tx (tokenBytes s.params.noToken)) s) with error := .integrityFile })

/-- `blockLoop()` (R301): the test is `≥`, so an accepted block may carry the count past the declared total. -/
def blockLoop (s : State) : State :=
  if s.r_count ≥ s.r_total.toNat then finalCheck s else startRead .rBlkHdr s

/-- EV_RX in R_READ_SESS (R300): the 13 remaining bytes of the session frame must agree with the handshake. -/
def rxReadSess (b : Byte) (s : State) : State :=
  let s := { s with r_buf := s.r_buf ++ [b] }
  if s.r_buf.length = 13 then
    if byteAt s.r_buf 0 ≠ s.r_version ∨ rdLe64 s.r_buf 1 ≠ s.r_total ∨ rdLe32 s.r_buf 9 ≠ s.r_fcrc then
      raiseFatal .protocolMismatch s
    else
      let s := match s.params.openTempAt with
        | .handshakeParsed => s
        | .sessionValidated => openTemp s
      blockLoop { s with r_exp_seq := 0, r_count := 0, r_run_crc := 0, r_verdict := .none }
  else s

/-- EV_RX in R_BLK_HDR (R302): neither the sequence number nor the length is checked here. -/
def rxBlkHdr (b : Byte) (s : State) : State :=
  let s := { s with r_buf := s.r_buf ++ [b] }
  if s.r_buf.length = 4 then
    let s := { s with r_blk_seq := rdLe16 s.r_buf 0, r_blk_len := rdLe16 s.r_buf 2, r_payload := [] }
    if s.r_blk_len = 0 then startRead .rBlkCrc s else startRead .rBlkPayload s
  else s

/-- EV_RX in R_BLK_PAYLOAD (R303). -/
def rxBlkPayload (b : Byte) (s : State) : State :=
  let s := { s with r_payload := s.r_payload ++ [b] }
  if s.r_payload.length = s.r_blk_len.toNat then startRead .rBlkCrc s else s

/-- `accept()` (R305): append, count, ACK, advance the expected sequence number modulo 65536. -/
def acceptBlock (s : State) : State :=
  let s := emit (.writeTemp s.r_payload) s
  let s := { s with r_count := s.r_count + s.r_blk_len.toNat, r_run_crc := crc s.r_payload s.r_run_crc }
  let s := emit (.tx [s.params.ackByte]) s
  blockLoop { s with r_exp_seq := s.r_exp_seq + 1, r_verdict := .accepted }

/-- `reject()` (R306): NAK and no other action; the next byte is taken as a block header's first. -/
def rejectBlock (s : State) : State := blockLoop (emit (.tx [s.params.nakByte]) s)

/-- The verdict on a complete block (R304, R63): both checks are evaluated. -/
def blockVerdict (seqOk crcOk : Bool) : Verdict :=
  match seqOk, crcOk with
  | true, true => .accepted
  | false, true => .badSeq
  | true, false => .badCrc
  | false, false => .badBoth

/-- EV_RX in R_BLK_CRC (R304): the decision on the block. -/
def rxBlkCrc (b : Byte) (s : State) : State :=
  let s := { s with r_buf := s.r_buf ++ [b] }
  if s.r_buf.length = 4 then
    let seqOk := s.r_blk_seq == s.r_exp_seq
    let crcOk := crc s.r_payload 0 == rdLe32 s.r_buf 0
    if seqOk && crcOk then acceptBlock s
    else rejectBlock { s with r_verdict := blockVerdict seqOk crcOk }
  else s

/-- EV_TIMEOUT in a read state (R308). -/
def timeoutRead (s : State) : State := raiseFatal .linkTimeout s

end Sys2Proof.Machine
end

