-- ==== Sys2Proof/Machine/Sender.lean ====
section
/-!
DEFINITION. The sender (43_sender.md): the host commands S_START, S_FILE_DATA, S_FILE_END and S_BLOCK_DATA, the
procedures nextBlock (R246) and attemptFailed (R251), and the sender's arms of MODE_DONE (R241), EV_RX (R244, R248,
R249, R252) and EV_TIMEOUT (R245, R250, R253). A command in a state that does not accept it is refused (45_control.md
R356, R359).
-/

namespace Sys2Proof.Machine

open Sys2Proof

/-- The pseudocode of S_START (R240). -/
def senderStart (blockSize maxAttempts : Half) (s : State) : State :=
  let s := { s with role := .sender }
  if blockSize = 0 ∨ maxAttempts = 0 then raiseFatal .configError s
  else
    setState .sModePending
      (emit (.modeReq .sender)
        { s with s_block := blockSize, s_maxatt := maxAttempts, s_total := 0, s_fcrc := 0 })

/-- S_START (R240): accepted in IDLE. -/
def execSStart (blockSize maxAttempts : Half) (s : State) : Result :=
  match s.state with
  | .idle => accepted (senderStart blockSize maxAttempts s)
  | _ => refuse s

/-- MODE_DONE at the sender (R241): the negotiator's verdict. -/
def senderModeDone (ok : Byte) (s : State) : State :=
  if ok = 1 then setState .sModeEntered s else raiseFatal .linkTimeout s

/-- The pseudocode of S_FILE_DATA (R242): one chunk of the whole-file CRC pass. -/
def senderFileData (data : List Byte) (s : State) : State :=
  if s.s_total.toNat + data.length ≥ 2 ^ 64 then raiseFatal .configError s
  else { s with s_fcrc := crc data s.s_fcrc, s_total := BitVec.ofNat 64 (s.s_total.toNat + data.length) }

/-- S_FILE_DATA (R242): accepted in S_MODE_ENTERED. -/
def execSFileData (data : List Byte) (s : State) : Result :=
  match s.state with
  | .sModeEntered => accepted (senderFileData data s)
  | _ => refuse s

/-- The pseudocode of S_FILE_END (R243): send the handshake and wait for its ACK. -/
def senderFileEnd (name : List Byte) (s : State) : State :=
  let s := { s with s_name := name }
  setState .sAwaitHsAck
    (armTimer .hsAck (emit (.tx (encodeHandshake s.params name s.s_total s.s_fcrc)) s))

/-- S_FILE_END (R243): accepted in S_MODE_ENTERED. -/
def execSFileEnd (name : List Byte) (s : State) : Result :=
  match s.state with
  | .sModeEntered => accepted (senderFileEnd name s)
  | _ => refuse s

/-- `min(s_block, s_total - s_sent)` (R246), computed exactly and narrowed to 16 bits (log 10). -/
def nextLen (s : State) : Half := BitVec.ofNat 16 (min s.s_block.toNat (s.s_total.toNat - s.s_sent.toNat))

/-- `nextBlock()` (R246). -/
def nextBlock (s : State) : State :=
  if s.s_sent = s.s_total then setState .sAwaitFinal (armTimer .final { s with s_fin := [] })
  else setState .sNeedData (emit (.dataReq (nextLen s)) { s with s_curlen := nextLen s })

/-- EV_RX in S_AWAIT_HS_ACK (R244). -/
def rxAwaitHsAck (b : Byte) (s : State) : State :=
  match tokClass s.params b with
  | .ack =>
    let s := emit (.tx (encodeSession s.params s.s_total s.s_fcrc)) (stopTimer s)
    nextBlock { s with s_seq := 0, s_sent := 0, s_att := 0 }
  | .nak => raiseFatal .protocolMismatch s
  | .other => s

/-- EV_TIMEOUT in S_AWAIT_HS_ACK (R245). -/
def timeoutAwaitHsAck (s : State) : State := raiseFatal .linkTimeout s

/-- The pseudocode of S_BLOCK_DATA (R247): encode, transmit and wait for the response. -/
def senderBlockData (data : List Byte) (s : State) : State :=
  if data.length ≠ s.s_curlen.toNat then raiseFatal .ioError s
  else
    let frame := encodeBlock s.s_seq data (crc data 0)
    setState .sAwaitResp
      (armTimer .blockResp (emit (.tx frame) { s with s_frame := frame, s_att := 1 }))

/-- S_BLOCK_DATA (R247): accepted in S_NEED_DATA. -/
def execSBlockData (data : List Byte) (s : State) : Result :=
  match s.state with
  | .sNeedData => accepted (senderBlockData data s)
  | _ => refuse s

/-- `attemptFailed()` (R251): abort after `s_maxatt` transmissions, otherwise resend the identical frame. -/
def attemptFailed (s : State) : State :=
  if s.s_att.toNat ≥ s.s_maxatt.toNat then raiseFatal .retryExhausted s
  else armTimer .blockResp (emit (.tx s.s_frame) { s with s_att := s.s_att + 1 })

/-- EV_RX ACK in S_AWAIT_RESP (R248): the block is acknowledged; the sequence number wraps modulo 65536. -/
def blockAcked (s : State) : State :=
  let s := stopTimer s
  nextBlock
    { s with s_sent := s.s_sent + s.s_curlen.setWidth 64, s_seq := s.s_seq + 1, s_att := 0 }

/-- EV_RX in S_AWAIT_RESP (R248, R249). -/
def rxAwaitResp (b : Byte) (s : State) : State :=
  match tokClass s.params b with
  | .ack => blockAcked s
  | .nak => attemptFailed s
  | .other =>
    match s.params.blockWaitOther with
    | .asNak => attemptFailed s
    | .ignore => s

/-- EV_TIMEOUT in S_AWAIT_RESP (R250). -/
def timeoutAwaitResp (s : State) : State := attemptFailed s

/-- EV_RX in S_AWAIT_FINAL (R252): the next two bytes are the token; no noise is skipped. -/
def rxAwaitFinal (b : Byte) (s : State) : State :=
  let s := { s with s_fin := s.s_fin ++ [b] }
  if s.s_fin.length = 2 then
    let s := stopTimer s
    match finClass s.params s.s_fin with
    | .ok => emit (.endTransfer .none) (setState .sDone s)
    | .no | .malformed => raiseFatal .integrityFile s
  else s

/-- EV_TIMEOUT in S_AWAIT_FINAL (R253): reported as the receiver's CRC failure. -/
def timeoutAwaitFinal (s : State) : State := raiseFatal .integrityFile s

end Sys2Proof.Machine
end

