-- ==== Sys2Proof/Machine/Control.lean ====
section
/-!
DEFINITION. Control, dispatch and host events (45_control.md): MODE_DONE, EV_RX and EV_TIMEOUT run the arm of the
current state (R351, R359); EV_IO_ERROR and EV_ABORT enter Fatal (R354, R355); REG_READ (R352) and RESET (R353).
-/

namespace Sys2Proof.Machine

open Sys2Proof

/-- MODE_DONE (R241, R291): ok must be 0 or 1, and the engine must be waiting for the negotiator; refused otherwise
(R133, R359). -/
def execModeDone (ok : Byte) (s : State) : Result :=
  if ok = 0 ∨ ok = 1 then
    match s.state with
    | .sModePending => accepted (senderModeDone ok s)
    | .rModePending => accepted (receiverModeDone ok s)
    | _ => refuse s
  else refuse s

/-- The EV_RX arm of a state (R359, second table); none exactly where RX_READY is 0 (R358). -/
def rxArm : StateCode → Option (Byte → State → State)
  | .sAwaitHsAck => some rxAwaitHsAck
  | .sAwaitResp => some rxAwaitResp
  | .sAwaitFinal => some rxAwaitFinal
  | .rSyncHs => some rxSyncHs
  | .rReadHsFixed => some rxReadHsFixed
  | .rReadHsName => some rxReadHsName
  | .rSyncSess => some rxSyncSess
  | .rReadSess => some rxReadSess
  | .rBlkHdr => some rxBlkHdr
  | .rBlkPayload => some rxBlkPayload
  | .rBlkCrc => some rxBlkCrc
  | .idle | .sModePending | .sModeEntered | .sHandshakeSent | .sSessionSent | .sNeedData | .sDone | .sFailed => none
  | .rModePending | .rModeEntered | .rHsParsed | .rAckSent | .rSessionValidated | .rFinalCheck => none
  | .rCommitted | .rKeptPartial | .rFailed => none

/-- EV_RX (R351): the arm of the state where RX_READY is 1; NOT_ACCEPTED otherwise, and the byte stays with the
channel (R85; log 4). -/
def execEvRx (b : Byte) (s : State) : Result :=
  match rxArm s.state with
  | some arm => accepted (arm b s)
  | none => notAccepted s

/-- The EV_TIMEOUT arm of a state (R359, second table). -/
def timeoutArm : StateCode → Option (State → State)
  | .sAwaitHsAck => some timeoutAwaitHsAck
  | .sAwaitResp => some timeoutAwaitResp
  | .sAwaitFinal => some timeoutAwaitFinal
  | .rSyncHs => some timeoutSyncHs
  | .rSyncSess => some timeoutSyncSess
  | .rReadHsFixed | .rReadHsName | .rReadSess | .rBlkHdr | .rBlkPayload | .rBlkCrc => some timeoutRead
  | .idle | .sModePending | .sModeEntered | .sHandshakeSent | .sSessionSent | .sNeedData | .sDone | .sFailed => none
  | .rModePending | .rModeEntered | .rHsParsed | .rAckSent | .rSessionValidated | .rFinalCheck => none
  | .rCommitted | .rKeptPartial | .rFailed => none

/-- EV_TIMEOUT (R351): NOT_ACCEPTED with no deadline armed; else the arm of the state, whatever the armed kind (R462).
"EV_TIMEOUT, when enabled, always finds an arm" (R357): a state in which it does not is reached by no run, and the
model faults there (log 6). -/
def execEvTimeout (s : State) : Result :=
  match s.timer_kind with
  | .none => notAccepted s
  | _ =>
    match timeoutArm s.state with
    | some arm => accepted (arm s)
    | none => .fault .timeoutWithoutArm

/-- Where EV_IO_ERROR and EV_ABORT are enabled: outside IDLE and the terminal states (R411, R414). -/
def abortEnabled (c : StateCode) : Bool := !(c == .idle || isTerminal c)

/-- EV_IO_ERROR (R354). -/
def execEvIoError (s : State) : Result :=
  if abortEnabled s.state then accepted (raiseFatal .ioError s) else notAccepted s

/-- EV_ABORT (R355). -/
def execEvAbort (s : State) : Result :=
  if abortEnabled s.state then accepted (raiseFatal .interrupted s) else notAccepted s

/-- REG_READ (R352): a reserved address is refused. -/
def execRegRead (addr : Byte) (s : State) : Result :=
  match regValue s addr with
  | some v => answer .ok (le64 v) s
  | none => refuse s

/-- RESET (R353). -/
def execReset (s : State) : Result := accepted (resetFields s)

end Sys2Proof.Machine
end

