-- ==== Sys2Proof/Machine/Dispatch.lean ====
section
/-! DEFINITION. The dispatch of a decoded command to its meaning (45_control.md R351), one arm per constructor. -/

namespace Sys2Proof.Machine

open Sys2Proof

/-- One instruction: the meaning of the command `i` in the state `s`. -/
def exec (i : Instr) (s : State) : Host.Outcome State Fault Refusal :=
  match i with
  | .crcInit seed => Sys2Proof.Machine.execCrcInit seed s
  | .crcFeed data => Sys2Proof.Machine.execCrcFeed data s
  | .crcRead => Sys2Proof.Machine.execCrcRead s
  | .encHs total crc name => Sys2Proof.Machine.execEncHs total crc name s
  | .decHs bytes => Sys2Proof.Machine.execDecHs bytes s
  | .encSess total crc => Sys2Proof.Machine.execEncSess total crc s
  | .decSess bytes => Sys2Proof.Machine.execDecSess bytes s
  | .encBlk seq crc payload => Sys2Proof.Machine.execEncBlk seq crc payload s
  | .decBlk bytes => Sys2Proof.Machine.execDecBlk bytes s
  | .tokClass b => Sys2Proof.Machine.execTokClass b s
  | .finClass b0 b1 => Sys2Proof.Machine.execFinClass b0 b1 s
  | .syncArm magic => Sys2Proof.Machine.execSyncArm magic s
  | .syncFeed b => Sys2Proof.Machine.execSyncFeed b s
  | .sStart blockSize maxAttempts => Sys2Proof.Machine.execSStart blockSize maxAttempts s
  | .rStart => Sys2Proof.Machine.execRStart s
  | .modeDone ok => Sys2Proof.Machine.execModeDone ok s
  | .sFileData data => Sys2Proof.Machine.execSFileData data s
  | .sFileEnd name => Sys2Proof.Machine.execSFileEnd name s
  | .sBlockData data => Sys2Proof.Machine.execSBlockData data s
  | .evRx b => Sys2Proof.Machine.execEvRx b s
  | .evTimeout => Sys2Proof.Machine.execEvTimeout s
  | .evIoError => Sys2Proof.Machine.execEvIoError s
  | .evAbort => Sys2Proof.Machine.execEvAbort s
  | .regRead addr => Sys2Proof.Machine.execRegRead addr s
  | .reset => Sys2Proof.Machine.execReset s

end Sys2Proof.Machine
end

