-- ==== Sys2Proof/Machine/Fetch.lean ====
section
/-!
DEFINITION. Taking a command (00_scope.md R9, 45_control.md R351): the oldest command leaves the command port, is decoded,
and runs its meaning or is refused.
-/

namespace Sys2Proof.Machine

open Sys2Proof

/-- A command taken from the port: a byte string that is no legal command is refused (R351, R356). -/
def runCommand (cmd : List Byte) (s : State) : Result :=
  match decode cmd with
  | .ok i => exec i s
  | .error _ => refuse s

/-- The oldest command is taken and run (R9, R351). With nothing on the command port the engine rests: "A resting state
waits for its next event and keeps all state" (60_exceptions.md R422; log 2). Ill-formed parameters are refused
(00_scope.md R12; log 5). -/
def takeCommand (s : State) : Result :=
  if s.params.WellFormed then
    match s.cmd_port with
    | [] => .next s
    | cmd :: rest => runCommand cmd { s with cmd_port := rest }
  else .refused .illFormedParameters

end Sys2Proof.Machine
end

