-- ==== Sys2Proof/Machine/Step.lean ====
section
/-! DEFINITION. One step of the engine (00_scope.md R9, 45_control.md R351), and where the step takes its command. -/

namespace Sys2Proof.Machine

open Sys2Proof

/-- One step: the oldest command of the command port is taken and run. -/
def step (s : State) : Host.Outcome State Fault Refusal := takeCommand s

/-- The state in which the next step takes the command of an opcode-table word (log 11). -/
def State.withFetchWord (s : State) (nbits w : Nat) : State :=
  { s with cmd_port := tableCommand nbits w :: s.cmd_port }

end Sys2Proof.Machine
end

