-- ==== Sys2Proof/Machine/Link.lean ====
section
/-!
DEFINITION. A whole transfer (60_exceptions.md R420): the product of two engines, the channel in both directions
(20_memory.md R90) and the two hosts with their duties and liberties (R87 to R89, 60_exceptions.md R409, R410,
70_reset_and_hazards.md R460 to R462), moves interleaved freely (R415), and of
one transfer after another, with RESET between them (R451, R452). `exec` and `step` know nothing of this file. `schedule` is the host and channel model under which 95_test_vectors.md
section 2.8 runs its whole transfers (log 15).
-/

namespace Sys2Proof.Machine

open Sys2Proof

/-- The sender's host: its file, the S_START operands and what it owes the engine (R87, R89). -/
structure SenderHost where
  /-- The source file as it stands now; it is read twice (R87). -/
  file : List Byte
  /-- The file name of S_FILE_END. -/
  name : List Byte
  /-- `BLOCK_SIZE` (00_scope.md R11). -/
  blockSize : Half
  /-- `MAX_ATTEMPTS` (00_scope.md R11). -/
  maxAttempts : Half
  /-- S_START has been issued for this transfer. -/
  started : Bool
  /-- How many MODE_REQs the negotiator has not answered; neither RESET nor END stops it (70_reset_and_hazards.md
  R452). -/
  modeAsked : Nat
  /-- The part of the file not yet streamed, while the whole-file pass is open. -/
  unread : Option (List Byte)
  /-- The offset of the next block's data. -/
  pos : Nat
  /-- DATA_REQ is unanswered. -/
  asked : Option Half
  /-- The armed deadline. -/
  deadline : TimerKind
  /-- The host's end of the channel is open; END closes it (R89, R410). -/
  channelOpen : Bool
  /-- The code of END. -/
  ended : Option ErrorCode
  /-- An output of the step that ended the transfer could not be performed: the process has ended as an I/O error
  whatever the engine's state says (70_reset_and_hazards.md R460). -/
  failed : Bool
deriving DecidableEq, Repr

/-- The receiver's host: its file store (R88) and what it owes the engine (R89). -/
structure ReceiverHost where
  /-- R_START has been issued for this transfer. -/
  started : Bool
  /-- How many MODE_REQs the negotiator has not answered; neither RESET nor END stops it (70_reset_and_hazards.md
  R452). -/
  modeAsked : Nat
  /-- The temporary file's content, if the file exists. -/
  temp : Option (List Byte)
  /-- The temporary file is open for writing: from OPEN_TEMP to END (R89, R410). -/
  tempOpen : Bool
  /-- The destination file, if one exists. -/
  dest : Option (List Byte)
  /-- The armed deadline. -/
  deadline : TimerKind
  /-- The host's end of the channel is open; END closes it (R89, R410). -/
  channelOpen : Bool
  /-- The code of END. -/
  ended : Option ErrorCode
  /-- An output of the step that ended the transfer could not be performed: the process has ended as an I/O error
  whatever the engine's state says (70_reset_and_hazards.md R460). -/
  failed : Bool
deriving DecidableEq, Repr

/-- Two engines, two hosts and the bytes in flight in each direction, oldest first. -/
structure Link where
  sender : State
  receiver : State
  senderHost : SenderHost
  receiverHost : ReceiverHost
  toReceiver : List Byte
  toSender : List Byte
deriving DecidableEq, Repr

/-- A disturbance of one direction of the channel: it may drop or corrupt bytes, or insert noise (R90). -/
inductive Disturbance where
  | drop (i : Nat)
  | corrupt (i : Nat) (b : Byte)
  | insert (i : Nat) (b : Byte)
deriving DecidableEq, Repr

/-- The moves of the environment (R89, R90, R411), and a change of the source file (R455). -/
inductive Move where
  | startSender
  | startReceiver
  /-- The sender's host takes the operands of its next transfer. -/
  | configureSender (name : List Byte) (blockSize maxAttempts : Half)
  /-- The sender's host issues RESET (R451, R452). -/
  | resetSender
  /-- The receiver's host issues RESET (R451, R452). -/
  | resetReceiver
  | modeDoneSender (ok : Bool)
  | modeDoneReceiver (ok : Bool)
  | fileChunk (n : Nat)
  | fileEnd
  | blockData
  | deliverToReceiver
  | deliverToSender
  | timeoutSender
  | timeoutReceiver
  | ioErrorSender
  | ioErrorReceiver
  | abortSender
  | abortReceiver
  /-- The source file comes to hold other bytes, so that the two passes may differ (70_reset_and_hazards.md R455,
  93_implementation_defined.md row 16; DESIGN CHOICE, log 17). -/
  | changeFile (content : List Byte)
  | disturbToReceiver (d : Disturbance)
  | disturbToSender (d : Disturbance)
deriving DecidableEq, Repr

/-- The channel's bytes after a disturbance (R90). -/
def disturb (d : Disturbance) (q : List Byte) : List Byte :=
  match d with
  | .drop i => q.eraseIdx i
  | .corrupt i b => q.set i b
  | .insert i b => q.take i ++ b :: q.drop i

/-- The process exit status of the host for an END code (60_exceptions.md R409). -/
def exitStatus : ErrorCode → Nat
  | .none => 0
  | .interrupted => 130
  | .configError | .linkTimeout | .protocolMismatch | .integrityBlock | .integrityFile | .retryExhausted => 1
  | .ioError => 1

/-- A host's exit status, once it has one: that of the END code (R409), or that of an I/O error where an output of the
step that ended the transfer failed (70_reset_and_hazards.md R460). -/
def hostExit (failed : Bool) (ended : Option ErrorCode) : Option Nat :=
  if failed then some (exitStatus .ioError) else ended.map exitStatus

/-- The exit status of the sender's host, once its run has ended. -/
def SenderHost.exit (h : SenderHost) : Option Nat := hostExit h.failed h.ended

/-- The exit status of the receiver's host, once its run has ended. -/
def ReceiverHost.exit (h : ReceiverHost) : Option Nat := hostExit h.failed h.ended

/-- The sender's host begins a transfer on an open channel (R451, R453). The negotiator and the deadline are as they
were (R452). -/
def SenderHost.start (h : SenderHost) : SenderHost :=
  { h with started := true, pos := 0, channelOpen := true, ended := none, failed := false }

/-- The receiver's host begins a transfer on an open channel (R451, R453). The files, the negotiator and the deadline
are as they were (R452). -/
def ReceiverHost.start (h : ReceiverHost) : ReceiverHost :=
  { h with started := true, channelOpen := true, ended := none, failed := false }

/-- The sender's host, which issues RESET itself, abandons its transfer (45_control.md R353; log 18). -/
def SenderHost.abandon (h : SenderHost) : SenderHost := { h with started := false, unread := none, asked := none }

/-- The receiver's host abandons its transfer; the files stay (45_control.md R353; log 18). -/
def ReceiverHost.abandon (h : ReceiverHost) : ReceiverHost := { h with started := false }

/-- The sender's host closes the channel and its file, and owes the engine no file data more (R89, R410). -/
def SenderHost.close (h : SenderHost) : SenderHost :=
  { h with channelOpen := false, unread := none, asked := none, deadline := .none }

/-- The receiver's host closes the channel and the temporary file, which stays in place (R89, R410). -/
def ReceiverHost.close (h : ReceiverHost) : ReceiverHost :=
  { h with channelOpen := false, tempOpen := false, deadline := .none }

/-- The temporary file after `p` is appended to it, where it is open (R88). -/
def ReceiverHost.append (h : ReceiverHost) (p : List Byte) : ReceiverHost :=
  if h.tempOpen then { h with temp := h.temp.map (fun t => t ++ p) } else h

/-- The first half of the promotion (R461): the destination is deleted. -/
def ReceiverHost.deleteDest (h : ReceiverHost) : ReceiverHost := { h with dest := none }

/-- The second half of the promotion (R461): the temporary file takes the destination's name. -/
def ReceiverHost.renameTemp (h : ReceiverHost) : ReceiverHost := { h with dest := h.temp, temp := none }

/-- The sender's environment performs one output (R86, R89, R135). -/
def senderOutput (l : Link) (o : Output) : Link :=
  match o with
  | .tx s => { l with toReceiver := l.toReceiver ++ s }
  | .modeReq _ => { l with senderHost := { l.senderHost with modeAsked := l.senderHost.modeAsked + 1 } }
  | .timerArm k => { l with senderHost := { l.senderHost with deadline := k } }
  | .timerStop => { l with senderHost := { l.senderHost with deadline := .none } }
  | .dataReq n => { l with senderHost := { l.senderHost with asked := some n } }
  | .endTransfer c => { l with senderHost := { l.senderHost.close with ended := some c } }
  | .openTemp _ | .writeTemp _ | .commit | .keepPartial => l

/-- The receiver's environment performs one output (R86, R88, R89, R135). -/
def receiverOutput (l : Link) (o : Output) : Link :=
  match o with
  | .tx s => { l with toSender := l.toSender ++ s }
  | .modeReq _ => { l with receiverHost := { l.receiverHost with modeAsked := l.receiverHost.modeAsked + 1 } }
  | .timerArm k => { l with receiverHost := { l.receiverHost with deadline := k } }
  | .timerStop => { l with receiverHost := { l.receiverHost with deadline := .none } }
  | .openTemp _ => { l with receiverHost := { l.receiverHost with temp := some [], tempOpen := true } }
  | .writeTemp p => { l with receiverHost := l.receiverHost.append p }
  | .commit => { l with receiverHost := l.receiverHost.deleteDest.renameTemp }
  | .keepPartial => l
  | .endTransfer c => { l with receiverHost := { l.receiverHost.close with ended := some c } }
  | .dataReq _ => l

/-- A failure of one output of a step (R460). Whether an output that fails has taken effect in part is open in R460;
DESIGN CHOICE (log 16): any part of it may have, and `done` says how much. -/
structure Failure where
  /-- The place of the failed output among the outputs of its step, from 0. -/
  index : Nat
  /-- How much of it took effect: the first `done` bytes of a TX or a WRITE_TEMP; the file created or truncated
  (not 0) or not (0) by OPEN_TEMP; the destination deleted (not 0) or not (0) by COMMIT. -/
  done : Nat
deriving DecidableEq, Repr

/-- The outputs that a host may fail to perform (R89, R460). -/
def canFail : Output → Bool
  | .openTemp _ | .writeTemp _ | .commit | .tx _ => true
  | .modeReq _ | .timerArm _ | .timerStop | .dataReq _ | .keepPartial | .endTransfer _ => false

/-- The part of a failed output that the sender's environment performed (R460; DESIGN CHOICE, log 16). -/
def senderPart (done : Nat) (l : Link) (o : Output) : Link :=
  match o with
  | .tx s => { l with toReceiver := l.toReceiver ++ s.take done }
  | .openTemp _ | .writeTemp _ | .commit | .modeReq _ | .timerArm _ | .timerStop | .dataReq _ | .keepPartial => l
  | .endTransfer _ => l

/-- The part of a failed output that the receiver's environment performed (R460; DESIGN CHOICE, log 16). A COMMIT that
fails, or a crash in it, after the delete and before the rename leaves no destination and the temporary file (R461,
93_implementation_defined.md row 10). -/
def receiverPart (done : Nat) (l : Link) (o : Output) : Link :=
  match o with
  | .tx s => { l with toSender := l.toSender ++ s.take done }
  | .writeTemp p => { l with receiverHost := l.receiverHost.append (p.take done) }
  | .openTemp _ => if done = 0 then l else { l with receiverHost := { l.receiverHost with temp := some [] } }
  | .commit => if done = 0 then l else { l with receiverHost := l.receiverHost.deleteDest }
  | .modeReq _ | .timerArm _ | .timerStop | .dataReq _ | .keepPartial | .endTransfer _ => l

/-- One engine takes one command: the state after the step, and the outputs of that step. -/
def engineStep (i : Instr) (s : State) : Option (State × List Output) :=
  match step { s with cmd_port := [encode i] } with
  | .next t => some (t, t.outputs.drop s.outputs.length)
  | .fault _ | .refused _ => none

/-- The environment acts on a step's outputs in order (R86): on all of them, or on those before the one that fails and
on a part of that one (R460; the part is a DESIGN CHOICE, log 16). None where the failure names no output of the step,
or one that cannot fail. -/
def performed (act : Link → Output → Link) (part : Nat → Link → Output → Link) (failure : Option Failure)
    (outs : List Output) (l : Link) : Option Link :=
  match failure with
  | none => some (outs.foldl act l)
  | some f =>
    match outs[f.index]? with
    | some o => if canFail o then some (part f.done ((outs.take f.index).foldl act l) o) else none
    | none => none

/-- What the sender's host does after a failed output (R460): it signals EV_IO_ERROR, or ends as an I/O error where the
engine is already terminal. -/
def senderAborts (l : Link) : Option Link :=
  if isTerminal l.sender.state then some { l with senderHost := { l.senderHost.close with failed := true } }
  else
    match engineStep .evIoError l.sender with
    | some (t, outs) => some (outs.foldl senderOutput { l with sender := t })
    | none => none

/-- What the receiver's host does after a failed output (R460). -/
def receiverAborts (l : Link) : Option Link :=
  if isTerminal l.receiver.state then some { l with receiverHost := { l.receiverHost.close with failed := true } }
  else
    match engineStep .evIoError l.receiver with
    | some (t, outs) => some (outs.foldl receiverOutput { l with receiver := t })
    | none => none

/-- The sender takes a command, and its environment acts on the outputs (R86), or fails at one (R460). -/
def senderTakes (failure : Option Failure) (i : Instr) (l : Link) : Option Link :=
  match engineStep i l.sender with
  | some (t, outs) =>
    match performed senderOutput senderPart failure outs { l with sender := t } with
    | some l' => if failure.isSome then senderAborts l' else some l'
    | none => none
  | none => none

/-- The receiver takes a command, and its environment acts on the outputs (R86), or fails at one (R460). -/
def receiverTakes (failure : Option Failure) (i : Instr) (l : Link) : Option Link :=
  match engineStep i l.receiver with
  | some (t, outs) =>
    match performed receiverOutput receiverPart failure outs { l with receiver := t } with
    | some l' => if failure.isSome then receiverAborts l' else some l'
    | none => none
  | none => none

/-- The operand of MODE_DONE. -/
def okByte (ok : Bool) : Byte := if ok then 1 else 0

/-- One move of the environment, none where its host duties forbid it (R89). A byte is offered only to an engine that
is reading; otherwise it stays at the head of the channel (R85). After END the channel is closed and the host delivers
nothing but an interrupt, which R89 allows at any time and the engine answers NOT_ACCEPTED; a host that has ended as an
I/O error delivers nothing. RESET is free at any time, in a terminal state too (45_control.md R353): it ends the host's
transfer, another may be started, and the channel's bytes, the files and the negotiator stay as they are (R451, R452;
log 18). The file pass begins where MODE_DONE 1 answers OK. The source file may change at any time to any content: the
first pass streams what it held when the pass began, and each block carries the bytes it holds when the block is read,
however many there are, so that the two passes may differ (R455; DESIGN CHOICE, log 17). `failure` is the failure of an
output of the move's step, if any (R460). -/
def applyMove (failure : Option Failure) (m : Move) (l : Link) : Option Link :=
  match m with
  | .startSender =>
    if l.senderHost.started then none
    else senderTakes failure (.sStart l.senderHost.blockSize l.senderHost.maxAttempts)
      { l with senderHost := l.senderHost.start }
  | .startReceiver =>
    if l.receiverHost.started then none
    else receiverTakes failure .rStart { l with receiverHost := l.receiverHost.start }
  | .configureSender name blockSize maxAttempts =>
    if l.senderHost.started then none
    else some
      { l with senderHost :=
          { l.senderHost with name := name, blockSize := blockSize, maxAttempts := maxAttempts } }
  | .resetSender => senderTakes failure .reset { l with senderHost := l.senderHost.abandon }
  | .resetReceiver => receiverTakes failure .reset { l with receiverHost := l.receiverHost.abandon }
  | .modeDoneSender ok =>
    if l.senderHost.channelOpen && 0 < l.senderHost.modeAsked then
      senderTakes failure (.modeDone (okByte ok))
        { l with senderHost :=
            { l.senderHost with
              modeAsked := l.senderHost.modeAsked - 1
              unread :=
                if ok && l.sender.state == .sModePending then some l.senderHost.file else l.senderHost.unread } }
    else none
  | .modeDoneReceiver ok =>
    if l.receiverHost.channelOpen && 0 < l.receiverHost.modeAsked then
      receiverTakes failure (.modeDone (okByte ok))
        { l with receiverHost := { l.receiverHost with modeAsked := l.receiverHost.modeAsked - 1 } }
    else none
  | .fileChunk n =>
    match l.senderHost.unread with
    | some u =>
      if n ≤ 65535 then
        senderTakes failure (.sFileData (u.take n))
          { l with senderHost := { l.senderHost with unread := some (u.drop n) } }
      else none
    | none => none
  | .fileEnd =>
    match l.senderHost.unread with
    | some [] =>
      senderTakes failure (.sFileEnd l.senderHost.name) { l with senderHost := { l.senderHost with unread := none } }
    | some (_ :: _) | none => none
  | .blockData =>
    match l.senderHost.asked with
    | some n =>
      senderTakes failure (.sBlockData (slice l.senderHost.file l.senderHost.pos n.toNat))
        { l with senderHost := { l.senderHost with asked := none, pos := l.senderHost.pos + n.toNat } }
    | none => none
  | .deliverToReceiver =>
    match l.toReceiver with
    | b :: rest =>
      if l.receiverHost.channelOpen && rxReady l.receiver.state then
        receiverTakes failure (.evRx b) { l with toReceiver := rest }
      else none
    | [] => none
  | .deliverToSender =>
    match l.toSender with
    | b :: rest =>
      if l.senderHost.channelOpen && rxReady l.sender.state then
        senderTakes failure (.evRx b) { l with toSender := rest }
      else none
    | [] => none
  | .timeoutSender => if l.senderHost.deadline = .none then none else senderTakes failure .evTimeout l
  | .timeoutReceiver => if l.receiverHost.deadline = .none then none else receiverTakes failure .evTimeout l
  | .ioErrorSender => if l.senderHost.channelOpen then senderTakes failure .evIoError l else none
  | .ioErrorReceiver => if l.receiverHost.channelOpen then receiverTakes failure .evIoError l else none
  | .abortSender => if l.senderHost.failed then none else senderTakes failure .evAbort l
  | .abortReceiver => if l.receiverHost.failed then none else receiverTakes failure .evAbort l
  | .changeFile content => some { l with senderHost := { l.senderHost with file := content } }
  | .disturbToReceiver d => some { l with toReceiver := disturb d l.toReceiver }
  | .disturbToSender d => some { l with toSender := disturb d l.toSender }

/-- A run of moves, each with the failure of an output in it, if any. -/
def runMoves : List (Option Failure × Move) → Link → Option Link
  | [], l => some l
  | (failure, m) :: ms, l =>
    match applyMove failure m l with
    | some l' => runMoves ms l'
    | none => none

/-- The next move of the lossless host and channel model (95_test_vectors.md section 2.8): start both ends, answer
MODE_REQ with success, deliver bytes whenever an engine is reading, stream the file, answer DATA_REQ with the next
file bytes; the file does not change (log 17); a deadline expires only when nothing else can happen, the sender's first. -/
def schedule (l : Link) : Option Move :=
  if !l.senderHost.started then some .startSender
  else if !l.receiverHost.started then some .startReceiver
  else if 0 < l.senderHost.modeAsked then some (.modeDoneSender true)
  else if 0 < l.receiverHost.modeAsked then some (.modeDoneReceiver true)
  else if !l.toReceiver.isEmpty && rxReady l.receiver.state then some .deliverToReceiver
  else if !l.toSender.isEmpty && rxReady l.sender.state then some .deliverToSender
  else
    match l.senderHost.unread with
    | some (_ :: _) => some (.fileChunk 65535)
    | some [] => some .fileEnd
    | none =>
      if l.senderHost.asked.isSome then some .blockData
      else if l.senderHost.deadline ≠ .none then some .timeoutSender
      else if l.receiverHost.deadline ≠ .none then some .timeoutReceiver
      else none

/-- `n` moves of the scheduled run; it stays where no move is left. -/
def scheduled : Nat → Link → Link
  | 0, l => l
  | n + 1, l =>
    match schedule l with
    | some m =>
      match applyMove none m l with
      | some l' => scheduled n l'
      | none => l
    | none => l

/-- Two engines after reset with the parameters `P`, an idle channel, a sender's host with its file and operands, and
a receiver's host whose destination may already hold a file (70_reset_and_hazards.md R453). -/
def linkStart (P : Params) (file name : List Byte) (blockSize maxAttempts : Half) (dest : Option (List Byte)) :
    Link where
  sender := { State.reset with params := P }
  receiver := { State.reset with params := P }
  senderHost :=
    { file := file, name := name, blockSize := blockSize, maxAttempts := maxAttempts, started := false,
      modeAsked := 0, unread := none, pos := 0, asked := none, deadline := .none, channelOpen := true, ended := none,
      failed := false }
  receiverHost :=
    { started := false, modeAsked := 0, temp := none, tempOpen := false, dest := dest, deadline := .none,
      channelOpen := true, ended := none, failed := false }
  toReceiver := []
  toSender := []

end Sys2Proof.Machine
end

