-- ==== Sys2Proof/Safety.lean ====
section
/-!
DEFINITION. What counts as a good run of one engine, in the terms the statements use: the outcomes of a run
(60_exceptions.md R423), the waits that rest on the environment (R424), what the outputs so far have written to the
temporary file and transmitted for the current block, and the invariant of the rules (45_control.md R357, 10_state.md
R46 to R62, 60_exceptions.md R404).
-/

namespace Sys2Proof.Machine

open Sys2Proof

/-- A successful end of a run (R423). -/
def isSuccess (s : State) : Prop := (s.state = .sDone ∨ s.state = .rCommitted) ∧ s.error = .none

/-- A failed end of a run (R423): a defined outcome, not a model fault. -/
def isFailure (s : State) : Prop :=
  (s.state = .sFailed ∨ s.state = .rFailed ∨ s.state = .rKeptPartial) ∧ s.error ≠ .none

/-- What one output does to the content of a faithful host's temporary file (20_memory.md R88). -/
def tempStep (content : List Byte) : Output → List Byte
  | .openTemp _ => []
  | .writeTemp p => content ++ p
  | .tx _ | .modeReq _ | .timerArm _ | .timerStop | .dataReq _ | .commit | .keepPartial | .endTransfer _ => content

/-- What a faithful host's temporary file holds after some outputs: the payloads written since the last OPEN_TEMP. -/
def tempContent (outs : List Output) : List Byte := outs.foldl tempStep []

/-- What one output does to the transmissions since the last DATA_REQ. -/
def frameStep (frames : List (List Byte)) : Output → List (List Byte)
  | .dataReq _ => []
  | .tx f => frames ++ [f]
  | .openTemp _ | .writeTemp _ | .modeReq _ | .timerArm _ | .timerStop | .commit | .keepPartial | .endTransfer _ => frames

/-- The transmissions since the last DATA_REQ: the sender's attempts at the current block. -/
def blockFrames (outs : List Output) : List (List Byte) := outs.foldl frameStep []

/-- A run of received bytes, each one EV_RX (20_memory.md R85). -/
def receive : List Byte → State → Result
  | [], s => .next s
  | b :: bs, s =>
    match exec (.evRx b) s with
    | .next t => receive bs t
    | .fault r => .fault r
    | .refused r => .refused r

/-- The commands of the standalone units (45_control.md R350). -/
def isStandalone : Instr → Bool
  | .crcInit _ | .crcFeed _ | .crcRead | .encHs _ _ _ | .decHs _ | .encSess _ _ | .decSess _ | .encBlk _ _ _ => true
  | .decBlk _ | .tokClass _ | .finClass _ _ | .syncArm _ | .syncFeed _ => true
  | .sStart _ _ | .rStart | .modeDone _ | .sFileData _ | .sFileEnd _ | .sBlockData _ | .evRx _ | .evTimeout => false
  | .evIoError | .evAbort | .regRead _ | .reset => false

/-- Bit `n` of a byte string in the order the CRC takes the bits in: byte by byte, least significant bit first
(40_crc.md R160). -/
def bitOf (s : List Byte) (n : Nat) : Bool := (byteAt s (n / 8)).getLsbD (n % 8)

/-- The deadline kind that is armed in each state (45_control.md R357, R359). -/
def stateTimer (P : Params) : StateCode → TimerKind
  | .sAwaitHsAck => .hsAck
  | .sAwaitResp => .blockResp
  | .sAwaitFinal => .final
  | .rSyncHs => .hsSync
  | .rSyncSess => .sessSync
  | .rReadHsFixed | .rReadHsName | .rReadSess | .rBlkHdr | .rBlkPayload | .rBlkCrc =>
    if P.rxReadDeadline then .rxRead else .none
  | .idle | .sModePending | .sModeEntered | .sHandshakeSent | .sSessionSent | .sNeedData | .sDone | .sFailed => .none
  | .rModePending | .rModeEntered | .rHsParsed | .rAckSent | .rSessionValidated | .rFinalCheck => .none
  | .rCommitted | .rKeptPartial | .rFailed => .none

/-- The waits without a deadline, the places where termination rests on the environment (60_exceptions.md R424): the
negotiator's answer, the file pass, the block data and, without RX_READ_DEADLINE, the six receiver read states. -/
def waitsWithoutDeadline (P : Params) : List StateCode :=
  [.sModePending, .rModePending, .sModeEntered, .sNeedData] ++
    (if P.rxReadDeadline then []
      else [.rReadHsFixed, .rReadHsName, .rReadSess, .rBlkHdr, .rBlkPayload, .rBlkCrc])

/-- The error codes that each state can hold (60_exceptions.md R401, R404). -/
def errorFits (c : StateCode) (e : ErrorCode) : Bool :=
  match c with
  | .sFailed =>
    match e with
    | .none | .integrityBlock => false
    | .configError | .linkTimeout | .protocolMismatch | .integrityFile | .retryExhausted => true
    | .ioError | .interrupted => true
  | .rFailed =>
    match e with
    | .linkTimeout | .protocolMismatch | .ioError | .interrupted => true
    | .none | .configError | .integrityBlock | .integrityFile | .retryExhausted => false
  | .rKeptPartial => e == .integrityFile
  | _ => e == .none

/-- The control fields agree with the state: no transient code is stored (R32), the role is the state's (R33), the
armed deadline is the state's (R357), the error is one the state can hold (R404). -/
structure ControlInv (s : State) : Prop where
  notTransient : stateKind s.state ≠ .transient
  role : s.role = stateRole s.state
  timer : s.timer_kind = stateTimer s.params s.state
  error : errorFits s.state s.error = true

/-- The sender fields are at their reset values (10_state.md section 2). -/
def senderAtReset (s : State) : Prop :=
  s.s_block = 0 ∧ s.s_maxatt = 0 ∧ s.s_total = 0 ∧ s.s_fcrc = 0 ∧ s.s_name = [] ∧ s.s_seq = 0 ∧ s.s_att = 0 ∧
    s.s_sent = 0 ∧ s.s_curlen = 0 ∧ s.s_frame = [] ∧ s.s_fin = []

/-- The receiver fields are at their reset values (10_state.md section 3). -/
def receiverAtReset (s : State) : Prop :=
  s.e_win = [] ∧ s.r_buf = [] ∧ s.r_version = 0 ∧ s.r_name_len = 0 ∧ s.r_total = 0 ∧ s.r_fcrc = 0 ∧ s.r_name = [] ∧
    s.r_exp_seq = 0 ∧ s.r_count = 0 ∧ s.r_run_crc = 0 ∧ s.r_blk_seq = 0 ∧ s.r_blk_len = 0 ∧ s.r_payload = [] ∧
    s.r_verdict = .none

/-- The sender states before the first block is asked for. -/
def senderEarly : StateCode → Bool
  | .sModePending | .sModeEntered | .sAwaitHsAck => true
  | _ => false

/-- The sender's invariants (10_state.md R44 to R50, 43_sender.md R246, R251, R254, R256). -/
structure SenderInv (s : State) : Prop where
  otherRole : s.role ≠ .sender → senderAtReset s
  early : senderEarly s.state = true → s.s_sent = 0 ∧ s.s_att = 0
  sentLe : s.s_sent.toNat ≤ s.s_total.toNat
  configured : stateRole s.state = .sender → s.state ≠ .sFailed → s.s_block ≠ 0 ∧ s.s_maxatt ≠ 0
  current : s.state = .sNeedData ∨ s.state = .sAwaitResp →
    s.s_curlen.toNat = min s.s_block.toNat (s.s_total.toNat - s.s_sent.toNat) ∧ s.s_sent ≠ s.s_total
  schedule : s.state = .sNeedData ∨ s.state = .sAwaitResp →
    ∃ k, s.s_sent.toNat = k * s.s_block.toNat ∧ s.s_seq.toNat = k % 65536
  attempts : s.state = .sAwaitResp → 1 ≤ s.s_att.toNat ∧ s.s_att.toNat ≤ s.s_maxatt.toNat
  noAttempt : s.state = .sNeedData ∨ s.state = .sAwaitFinal ∨ s.state = .sDone → s.s_att = 0
  frame : s.state = .sAwaitResp →
    ∃ data, data.length = s.s_curlen.toNat ∧ s.s_frame = encodeBlock s.s_seq data (crc data 0)
  allSent : s.state = .sAwaitFinal ∨ s.state = .sDone → s.s_sent = s.s_total
  fin : s.s_fin.length ≤ 2 ∧ (s.state = .sAwaitFinal → s.s_fin.length ≤ 1)
  token : s.state = .sDone → s.s_fin = tokenBytes s.params.okToken
  bounds : s.s_name.length ≤ 65535 ∧ s.s_frame.length ≤ 65543

/-- The receiver states before the session frame has been validated. -/
def receiverEarly : StateCode → Bool
  | .rModePending | .rSyncHs | .rReadHsFixed | .rReadHsName | .rSyncSess | .rReadSess => true
  | _ => false

/-- The receiver states of the block loop. -/
def blockState : StateCode → Bool
  | .rBlkHdr | .rBlkPayload | .rBlkCrc => true
  | _ => false

/-- The receiver's invariants (10_state.md R37, R51 to R62, 44_receiver.md R296, R298, R300, R301, R307). -/
structure ReceiverInv (s : State) : Prop where
  otherRole : s.role ≠ .receiver → receiverAtReset s ∧ s.temp_open = false
  early : receiverEarly s.state = true → s.r_exp_seq = 0 ∧ s.r_count = 0 ∧ s.r_run_crc = 0
  window : s.e_win.length ≤ 4
  buffer : s.r_buf.length ≤ 15 ∧ (s.state = .rReadHsFixed → s.r_buf.length ≤ 14) ∧
    (s.state = .rReadSess → s.r_buf.length ≤ 12) ∧ (s.state = .rBlkHdr ∨ s.state = .rBlkCrc → s.r_buf.length ≤ 3)
  name : s.r_name.length ≤ 65535 ∧ (s.state = .rReadHsName → s.r_name.length < s.r_name_len.toNat)
  payload : s.r_payload.length ≤ 65535 ∧ (s.state = .rBlkPayload → s.r_payload.length < s.r_blk_len.toNat) ∧
    (s.state = .rBlkCrc → s.r_payload.length = s.r_blk_len.toNat)
  version : s.state = .rSyncSess ∨ s.state = .rReadSess ∨ blockState s.state = true →
    s.r_version = s.params.protoVersion
  count : s.r_count < s.r_total.toNat + 65536 ∧ (blockState s.state = true → s.r_count < s.r_total.toNat)
  openedEarly : (receiverEarly s.state = true → s.state ≠ .rSyncSess → s.state ≠ .rReadSess → s.temp_open = false) ∧
    (s.state = .rSyncSess ∨ s.state = .rReadSess → s.temp_open = (s.params.openTempAt == .handshakeParsed))
  opened : blockState s.state = true ∨ s.state = .rCommitted ∨ s.state = .rKeptPartial → s.temp_open = true
  committed : s.state = .rCommitted → s.r_total.toNat ≤ s.r_count ∧ s.r_run_crc = s.r_fcrc
  keptPartial : s.state = .rKeptPartial → s.r_total.toNat ≤ s.r_count ∧ s.r_run_crc ≠ s.r_fcrc

/-- The running CRC and the byte counter describe the temporary file (44_receiver.md R305, R311). -/
def TempFileInv (s : State) : Prop :=
  s.temp_open = true → s.r_count = (tempContent s.outputs).length ∧ s.r_run_crc = crc (tempContent s.outputs) 0

/-- The attempt counter counts the transmissions of one and the same frame (43_sender.md R251, R255). -/
def AttemptInv (s : State) : Prop :=
  (s.state = .sNeedData → blockFrames s.outputs = []) ∧
  (s.state = .sAwaitResp → blockFrames s.outputs = List.replicate s.s_att.toNat s.s_frame) ∧
  (s.error = .retryExhausted → blockFrames s.outputs = List.replicate s.s_maxatt.toNat s.s_frame)

/-- The standalone scanner (10_state.md R65, 42_sync.md R222, R223). -/
def ScannerInv (s : State) : Prop :=
  s.sc_win.length ≤ 4 ∧ (s.sc_armed = true → s.sc_matched = false) ∧
    (s.sc_armed = false → s.sc_win = [])

/-- The invariant of the engine. -/
structure EngineInv (s : State) : Prop where
  control : ControlInv s
  sender : SenderInv s
  receiver : ReceiverInv s
  tempFile : TempFileInv s
  attempt : AttemptInv s
  scanner : ScannerInv s

end Sys2Proof.Machine
end

