-- ==== Sys2Proof/Certificates/Slice0/Obligations.lean ====
section
/-!
DEFINITION. The statements for the provers: what each command and the engine do, from the numbered rules of spec/. The
definitions under Sys2Proof.Spec write the shared procedures of the rules as one record each, with no operation of the
model, so that the statements say the next state whole: every field not named is unchanged, and the engine has no
addressed memory (20_memory.md R80).
-/

namespace Sys2Proof.Spec

open Sys2Proof Sys2Proof.Machine

/-- What stopTimer emits (R413). -/
def stopped (s : State) : List Output := if s.timer_kind = .none then [] else [.timerStop]

/-- The responses after `respond(OK, [])` (R131). -/
def ok (s : State) : List Response := s.responses ++ [⟨.ok, []⟩]

/-- A refused command (R356). -/
def refused (s : State) : State := { s with illegal := true, responses := s.responses ++ [⟨.rejected, []⟩] }

/-- A port event that is not enabled (R414). -/
def notTaken (s : State) : State := { s with responses := s.responses ++ [⟨.notAccepted, []⟩] }

/-- A fatal entry of kind `k` and the OK response (R403). -/
def failed (k : ErrorCode) (s : State) : State :=
  { s with
    timer_kind := .none
    error := k
    state := if s.role = .sender then .sFailed else .rFailed
    outputs := s.outputs ++ stopped s ++ [.endTransfer k]
    responses := ok s }

/-- An exact-count read begins in state `c` (R317). -/
def reading (c : StateCode) (s : State) : State :=
  { s with
    r_buf := []
    state := c
    timer_kind := if s.params.rxReadDeadline then .rxRead else .none
    outputs := s.outputs ++ (if s.params.rxReadDeadline then [.timerArm .rxRead] else stopped s) }

/-- The OK response added to a state. -/
def answered (s : State) : State := { s with responses := ok s }

/-- The numeric state code, the table of R32. -/
def stateNumber : StateCode → Byte
  | .idle => 0x00
  | .sModePending => 0x01
  | .sModeEntered => 0x02
  | .sHandshakeSent => 0x03
  | .sAwaitHsAck => 0x04
  | .sSessionSent => 0x05
  | .sNeedData => 0x06
  | .sAwaitResp => 0x07
  | .sAwaitFinal => 0x08
  | .sDone => 0x09
  | .sFailed => 0x0A
  | .rModePending => 0x11
  | .rModeEntered => 0x12
  | .rSyncHs => 0x13
  | .rReadHsFixed => 0x14
  | .rReadHsName => 0x15
  | .rHsParsed => 0x16
  | .rAckSent => 0x17
  | .rSyncSess => 0x18
  | .rReadSess => 0x19
  | .rSessionValidated => 0x1A
  | .rBlkHdr => 0x1B
  | .rBlkPayload => 0x1C
  | .rBlkCrc => 0x1D
  | .rFinalCheck => 0x1E
  | .rCommitted => 0x1F
  | .rKeptPartial => 0x20
  | .rFailed => 0x21

/-- The numeric error code, the table of R400. -/
def errorNumber : ErrorCode → Byte
  | .none => 0
  | .configError => 1
  | .linkTimeout => 2
  | .protocolMismatch => 3
  | .integrityBlock => 4
  | .integrityFile => 5
  | .retryExhausted => 6
  | .ioError => 7
  | .interrupted => 8

/-- The numeric role (R33). -/
def roleNumber : Role → BitVec 2
  | .none => 0
  | .sender => 1
  | .receiver => 2

/-- The numeric deadline kind, the table of R412. -/
def timerNumber : TimerKind → BitVec 3
  | .none => 0
  | .hsAck => 1
  | .blockResp => 2
  | .final => 3
  | .hsSync => 4
  | .sessSync => 5
  | .rxRead => 6

/-- The numeric verdict (R63). -/
def verdictNumber : Verdict → Nat
  | .none => 0
  | .accepted => 1
  | .badSeq => 2
  | .badCrc => 3
  | .badBoth => 4

/-- The response status byte (R131). -/
def statusNumber : Status → Byte
  | .ok => 0x00
  | .formatError => 0x01
  | .notAccepted => 0x02
  | .rejected => 0xFF

/-- The states of R38 in which the engine reads the channel. -/
def readingStates : List StateCode :=
  [.sAwaitHsAck, .sAwaitResp, .sAwaitFinal, .rSyncHs, .rReadHsFixed, .rReadHsName, .rSyncSess, .rReadSess, .rBlkHdr,
    .rBlkPayload, .rBlkCrc]

/-- The terminal states of R32. -/
def terminalStates : List StateCode := [.sDone, .sFailed, .rCommitted, .rKeptPartial, .rFailed]

/-- The handshake is complete (R296, R298). -/
def handshakeDone (s : State) : State :=
  if s.r_version = s.params.protoVersion then
    { s with
      temp_open := if s.params.openTempAt = .handshakeParsed then true else s.temp_open
      e_win := []
      timer_kind := .sessSync
      state := .rSyncSess
      outputs := s.outputs ++ (if s.params.openTempAt = .handshakeParsed then [.openTemp s.r_name] else [])
        ++ [.tx [s.params.ackByte], .timerArm .sessSync]
      responses := ok s }
  else failed .protocolMismatch s

/-- The final check (R307). -/
def checked (s : State) : State :=
  if s.r_run_crc = s.r_fcrc then
    { s with
      timer_kind := .none
      state := .rCommitted
      outputs := s.outputs ++ stopped s ++
        [.commit, .tx [s.params.okToken.b0, s.params.okToken.b1], .endTransfer .none]
      responses := ok s }
  else
    { s with
      timer_kind := .none
      state := .rKeptPartial
      error := .integrityFile
      outputs := s.outputs ++ stopped s ++
        [.tx [s.params.noToken.b0, s.params.noToken.b1], .keepPartial, .endTransfer .integrityFile]
      responses := ok s }

/-- The block loop goes on or ends (R301). -/
def looped (s : State) : State :=
  if s.r_total.toNat ≤ s.r_count then checked s else answered (reading .rBlkHdr s)

/-- The next block is asked for, or the final status is awaited (R246). -/
def blockAsked (s : State) : State :=
  if s.s_sent = s.s_total then
    { s with
      s_fin := []
      timer_kind := .final
      state := .sAwaitFinal
      outputs := s.outputs ++ [.timerArm .final]
      responses := ok s }
  else
    { s with
      s_curlen := BitVec.ofNat 16 (min s.s_block.toNat (s.s_total.toNat - s.s_sent.toNat))
      state := .sNeedData
      outputs := s.outputs ++ [.dataReq (BitVec.ofNat 16 (min s.s_block.toNat (s.s_total.toNat - s.s_sent.toNat)))]
      responses := ok s }

/-- An attempt at the current block has failed (R251). -/
def attemptLost (s : State) : State :=
  if s.s_maxatt.toNat ≤ s.s_att.toNat then failed .retryExhausted s
  else
    { s with
      s_att := BitVec.ofNat 16 (s.s_att.toNat + 1)
      timer_kind := .blockResp
      outputs := s.outputs ++ [.tx s.s_frame, .timerArm .blockResp]
      responses := ok s }

end Sys2Proof.Spec

open Sys2Proof Sys2Proof.Machine

/- Standalone units: CRC, codec, scanner. -/

/-- R163, R164, R165: the commands of the standalone CRC unit. -/
def Obligations.CrcUnitCommands : Prop :=
  ∀ s : State,
    (∀ seed, encode (.crcInit seed) = 0x10 :: le32 seed ∧
      exec (.crcInit seed) s = .next { s with crc_unit := seed, responses := Spec.ok s }) ∧
    (∀ data, encode (.crcFeed data) = 0x11 :: (le16 (BitVec.ofNat 16 data.length) ++ data) ∧
      exec (.crcFeed data) s = .next { s with crc_unit := crc data s.crc_unit, responses := Spec.ok s }) ∧
    (encode .crcRead = [0x12] ∧
      exec .crcRead s = .next { s with responses := s.responses ++ [⟨.ok, le32 s.crc_unit⟩] })

/-- 40_crc.md section 1, "One-byte update" (the spec's choice of the variant, marked [from general knowledge, not in
source]; log 8): the eight iterations written out, the table form, and the four table values the text gives. -/
def Obligations.CrcStepTableForm : Prop :=
  (∀ (r : Word) (b : Byte),
    crcStep r b =
      (List.range 8).foldl (fun c _ => if c.getLsbD 0 then (c >>> 1) ^^^ 0xEDB88320 else c >>> 1)
        ((r ^^^ 0xFFFFFFFF) ^^^ b.setWidth 32) ^^^ 0xFFFFFFFF) ∧
  (∀ (r : Word) (b : Byte),
    crcStep r b =
      (crcLoop 8 (((r ^^^ 0xFFFFFFFF) ^^^ b.setWidth 32) &&& 0xFF) ^^^ ((r ^^^ 0xFFFFFFFF) >>> 8)) ^^^ 0xFFFFFFFF) ∧
  crcLoop 8 0 = 0 ∧ crcLoop 8 1 = 0x77073096 ∧ crcLoop 8 128 = 0xEDB88320 ∧ crcLoop 8 255 = 0x2D02EF8D

/-- 40_crc.md section 1, the left fold and the "Incremental law" (marked [derived]); the check value is the spec's own
(marked [from general knowledge, not in source]; log 8). -/
def Obligations.CrcIsIncremental : Prop :=
  (∀ seed, crc [] seed = seed) ∧
  (∀ (s : List Byte) (b : Byte) (seed : Word), crc (s ++ [b]) seed = crcStep (crc s seed) b) ∧
  (∀ (a b : List Byte) (s : Word), crc (a ++ b) s = crc b (crc a s)) ∧
  crc [0x31, 0x32, 0x33, 0x34, 0x35, 0x36, 0x37, 0x38, 0x39] 0 = 0xCBF43926

/-- 40_crc.md section 2, "Arithmetic of the CRC" (marked [from general knowledge, not in source]; log 8): the CRC is
affine over GF(2) in its input bits. -/
def Obligations.CrcIsAffine : Prop :=
  ∀ (a b : List Byte) (s : Word), a.length = b.length →
    crc a s ^^^ crc b s =
      crc (List.zipWith (fun x y => x ^^^ y) a b) 0 ^^^ crc (List.replicate a.length 0) 0

/-- 40_crc.md section 1, "Error detection" (marked [from general knowledge, not in source]; log 8): every error
confined to 32 consecutive bits is detected (a single bit is the least of them), and an error of 33 bits can go
undetected. -/
def Obligations.CrcDetectsBursts : Prop :=
  (∀ (a b : List Byte) (k : Nat), a.length = b.length → a ≠ b →
    (∀ n, bitOf a n ≠ bitOf b n → k ≤ n ∧ n < k + 32) → crc a 0 ≠ crc b 0) ∧
  (∃ a b : List Byte, a.length = b.length ∧ a ≠ b ∧
    (∀ n, bitOf a n ≠ bitOf b n → n < 33) ∧ crc a 0 = crc b 0)

/-- R180, R182, R184 with R190, R192, R194: the three encoders, field by field. -/
def Obligations.CodecEncoders : Prop :=
  ∀ s : State,
    (∀ total fcrc name,
      encode (.encHs total fcrc name) =
        0x20 :: (le64 total ++ le32 fcrc ++ (le16 (BitVec.ofNat 16 name.length) ++ name)) ∧
      exec (.encHs total fcrc name) s =
        .next { s with
          responses := s.responses ++
            [⟨.ok, magicBytes s.params.hsMagic ++ [s.params.protoVersion] ++ le16 (BitVec.ofNat 16 name.length) ++
              le64 total ++ le32 fcrc ++ name⟩] }) ∧
    (∀ total fcrc,
      encode (.encSess total fcrc) = 0x22 :: (le64 total ++ le32 fcrc) ∧
      exec (.encSess total fcrc) s =
        .next { s with
          responses := s.responses ++
            [⟨.ok, magicBytes s.params.sessMagic ++ [s.params.protoVersion] ++ le64 total ++ le32 fcrc⟩] }) ∧
    (∀ seq bcrc payload,
      encode (.encBlk seq bcrc payload) =
        0x24 :: (le16 seq ++ le32 bcrc ++ (le16 (BitVec.ofNat 16 payload.length) ++ payload)) ∧
      exec (.encBlk seq bcrc payload) s =
        .next { s with
          responses := s.responses ++
            [⟨.ok, le16 seq ++ le16 (BitVec.ofNat 16 payload.length) ++ payload ++ le32 bcrc⟩] })

/-- R181, R183, R185 with R191, R193, R195: the three decoders answer the frame's own bytes after the magic (a block's
trailer before its payload), or FORMAT_ERROR. -/
def Obligations.CodecDecoders : Prop :=
  ∀ (s : State) (x : List Byte),
    (encode (.decHs x) = 0x21 :: (le16 (BitVec.ofNat 16 x.length) ++ x) ∧
      exec (.decHs x) s =
        .next { s with
          responses := s.responses ++
            [if 19 ≤ x.length ∧ x.take 4 = magicBytes s.params.hsMagic ∧
                19 + ((byteAt x 5).toNat + 256 * (byteAt x 6).toNat) ≤ x.length
              then ⟨.ok, (x.drop 4).take (15 + ((byteAt x 5).toNat + 256 * (byteAt x 6).toNat))⟩
              else ⟨.formatError, []⟩] }) ∧
    (encode (.decSess x) = 0x23 :: (le16 (BitVec.ofNat 16 x.length) ++ x) ∧
      exec (.decSess x) s =
        .next { s with
          responses := s.responses ++
            [if 17 ≤ x.length ∧ x.take 4 = magicBytes s.params.sessMagic then ⟨.ok, (x.drop 4).take 13⟩
              else ⟨.formatError, []⟩] }) ∧
    (encode (.decBlk x) = 0x25 :: (le16 (BitVec.ofNat 16 x.length) ++ x) ∧
      exec (.decBlk x) s =
        .next { s with
          responses := s.responses ++
            [if 8 + ((byteAt x 2).toNat + 256 * (byteAt x 3).toNat) ≤ x.length
              then ⟨.ok, x.take 4 ++ (x.drop (4 + ((byteAt x 2).toNat + 256 * (byteAt x 3).toNat))).take 4 ++
                (x.drop 4).take ((byteAt x 2).toNat + 256 * (byteAt x 3).toNat)⟩
              else ⟨.formatError, []⟩] })

/-- 41_codec.md section 1, "Round-trip laws" (marked [derived]): the three frames, in both directions. -/
def Obligations.FrameRoundTrips : Prop :=
  (∀ (P : Params) (name t : List Byte) (T : Dword) (C : Word), name.length ≤ 65535 →
    decodeHandshake P (encodeHandshake P name T C ++ t) =
      some { version := P.protoVersion, nameLen := BitVec.ofNat 16 name.length, totalSize := T, fileCrc32 := C,
             name := name, consumed := 19 + name.length }) ∧
  (∀ (P : Params) (t : List Byte) (T : Dword) (C : Word),
    decodeSession P (encodeSession P T C ++ t) =
      some { version := P.protoVersion, totalSize := T, fileCrc32 := C, consumed := 17 }) ∧
  (∀ (q : Half) (p t : List Byte) (C : Word), p.length ≤ 65535 →
    decodeBlock (encodeBlock q p C ++ t) =
      some { seq := q, len := BitVec.ofNat 16 p.length, payload := p, blockCrc32 := C, consumed := 8 + p.length }) ∧
  (∀ (P : Params) (x : List Byte) (f : HandshakeFrame), decodeHandshake P x = some f →
    f.version = P.protoVersion → encodeHandshake P f.name f.totalSize f.fileCrc32 = x.take f.consumed) ∧
  (∀ (P : Params) (x : List Byte) (f : SessionFrame), decodeSession P x = some f →
    f.version = P.protoVersion → encodeSession P f.totalSize f.fileCrc32 = x.take f.consumed) ∧
  (∀ (x : List Byte) (f : BlockFrame), decodeBlock x = some f →
    encodeBlock f.seq f.payload f.blockCrc32 = x.take f.consumed)

/-- R186 with R196, R197: the classes of control bytes and final status tokens. -/
def Obligations.TokenClassCommands : Prop :=
  ∀ s : State, s.params.WellFormed →
    (∀ b, encode (.tokClass b) = [0x26, b] ∧
      ∃ c, exec (.tokClass b) s = .next { s with responses := s.responses ++ [⟨.ok, [c]⟩] } ∧
        (c = 1 ↔ b = s.params.ackByte) ∧ (c = 2 ↔ b = s.params.nakByte) ∧
        (c = 0 ↔ b ≠ s.params.ackByte ∧ b ≠ s.params.nakByte)) ∧
    (∀ b0 b1, encode (.finClass b0 b1) = [0x27, b0, b1] ∧
      ∃ c, exec (.finClass b0 b1) s = .next { s with responses := s.responses ++ [⟨.ok, [c]⟩] } ∧
        (c = 1 ↔ (⟨b0, b1⟩ : Bytes2) = s.params.okToken) ∧ (c = 2 ↔ (⟨b0, b1⟩ : Bytes2) = s.params.noToken) ∧
        (c = 0 ↔ (⟨b0, b1⟩ : Bytes2) ≠ s.params.okToken ∧ (⟨b0, b1⟩ : Bytes2) ≠ s.params.noToken))

/-- R220 with R222, R223: the standalone scanner's commands. -/
def Obligations.SyncCommands : Prop :=
  ∀ s : State,
    (∀ m : Bytes4, encode (.syncArm m) = [0x30, m.b0, m.b1, m.b2, m.b3] ∧
      exec (.syncArm m) s =
        .next { s with
          sc_magic := m, sc_win := [], sc_armed := true, sc_matched := false, responses := Spec.ok s }) ∧
    (∀ b, encode (.syncFeed b) = [0x31, b]) ∧
    (s.sc_armed = false → ∀ b, exec (.syncFeed b) s = .next (Spec.refused s)) ∧
    (s.sc_armed = true → ∀ b,
      exec (.syncFeed b) s =
        if lastN 4 (s.sc_win ++ [b]) = magicBytes s.sc_magic then
          .next { s with
            sc_win := [], sc_armed := false, sc_matched := true, responses := s.responses ++ [⟨.ok, [1]⟩] }
        else
          .next { s with
            sc_win := lastN 4 (s.sc_win ++ [b]), sc_matched := false,
            responses := s.responses ++ [⟨.ok, [0]⟩] })

/-- 42_sync.md section 1, "Scan semantics" (marked [derived]): a scan from an empty window matches at a byte exactly
when the bytes so far end in the magic. -/
def Obligations.ScanFindsMagic : Prop :=
  ∀ (magic : Bytes4) (xs : List Byte) (b : Byte),
    (scanStep (xs.foldl (fun w x => (scanStep w magic x).1) []) magic b).2 = true ↔
      ∃ pre, xs ++ [b] = pre ++ magicBytes magic

/-- R350: the standalone units write no transfer field and emit nothing, and what they answer and write depends on no
transfer field. -/
def Obligations.StandaloneUnitsAreIsolated : Prop :=
  ∀ i, isStandalone i = true → ∀ s,
    (∃ t, exec i s = .next t ∧
      t = { s with
        illegal := t.illegal, crc_unit := t.crc_unit, sc_magic := t.sc_magic, sc_win := t.sc_win,
        sc_armed := t.sc_armed, sc_matched := t.sc_matched, responses := t.responses }) ∧
    (∀ s' t t', s'.params = s.params → s'.crc_unit = s.crc_unit → s'.sc_magic = s.sc_magic →
      s'.sc_win = s.sc_win → s'.sc_armed = s.sc_armed → s'.sc_matched = s.sc_matched →
      exec i s = .next t → exec i s' = .next t' →
      t'.crc_unit = t.crc_unit ∧ t'.sc_magic = t.sc_magic ∧ t'.sc_win = t.sc_win ∧ t'.sc_armed = t.sc_armed ∧
      t'.sc_matched = t.sc_matched ∧
      t'.responses.drop s'.responses.length = t.responses.drop s.responses.length)

/- The sender. -/

/-- R240, R290: S_START and R_START in IDLE; they are refused in every other state. -/
def Obligations.StartCommands : Prop :=
  ∀ (s : State) (blockSize maxAttempts : Half),
    encode (.sStart blockSize maxAttempts) = 0x40 :: (le16 blockSize ++ le16 maxAttempts) ∧
    (s.state = .idle → blockSize ≠ 0 → maxAttempts ≠ 0 →
      exec (.sStart blockSize maxAttempts) s =
        .next { s with
          role := .sender, s_block := blockSize, s_maxatt := maxAttempts, s_total := 0, s_fcrc := 0,
          state := .sModePending, outputs := s.outputs ++ [.modeReq .sender], responses := Spec.ok s }) ∧
    (s.state = .idle → blockSize = 0 ∨ maxAttempts = 0 →
      exec (.sStart blockSize maxAttempts) s =
        .next { s with
          role := .sender, timer_kind := .none, error := .configError, state := .sFailed,
          outputs := s.outputs ++ Spec.stopped s ++ [.endTransfer .configError], responses := Spec.ok s }) ∧
    encode .rStart = [0x41] ∧
    (s.state = .idle →
      exec .rStart s =
        .next { s with
          role := .receiver, state := .rModePending, outputs := s.outputs ++ [.modeReq .receiver],
          responses := Spec.ok s }) ∧
    (s.state ≠ .idle →
      exec (.sStart blockSize maxAttempts) s = .next (Spec.refused s) ∧ exec .rStart s = .next (Spec.refused s))

/-- R241, R291: MODE_DONE at each role; any other operand, and any other state, is refused. -/
def Obligations.ModeDoneCommand : Prop :=
  ∀ s : State,
    (∀ b, encode (.modeDone b) = [0x42, b]) ∧
    (s.state = .sModePending →
      exec (.modeDone 1) s = .next { s with state := .sModeEntered, responses := Spec.ok s } ∧
      exec (.modeDone 0) s = .next (Spec.failed .linkTimeout s)) ∧
    (s.state = .rModePending →
      exec (.modeDone 1) s =
        .next { s with
          e_win := [], timer_kind := .hsSync, state := .rSyncHs, outputs := s.outputs ++ [.timerArm .hsSync],
          responses := Spec.ok s } ∧
      exec (.modeDone 0) s = .next (Spec.failed .linkTimeout s)) ∧
    (∀ b, b ≠ 0 → b ≠ 1 → exec (.modeDone b) s = .next (Spec.refused s)) ∧
    (s.state ≠ .sModePending → s.state ≠ .rModePending → ∀ b, exec (.modeDone b) s = .next (Spec.refused s))

/-- R242: S_FILE_DATA, one chunk of the whole-file pass. -/
def Obligations.SFileDataCommand : Prop :=
  ∀ (s : State) (data : List Byte),
    encode (.sFileData data) = 0x43 :: (le16 (BitVec.ofNat 16 data.length) ++ data) ∧
    (s.state = .sModeEntered → s.s_total.toNat + data.length < 2 ^ 64 →
      ∃ total : Dword, total.toNat = s.s_total.toNat + data.length ∧
        exec (.sFileData data) s =
          .next { s with s_fcrc := crc data s.s_fcrc, s_total := total, responses := Spec.ok s }) ∧
    (s.state = .sModeEntered → 2 ^ 64 ≤ s.s_total.toNat + data.length →
      exec (.sFileData data) s = .next (Spec.failed .configError s)) ∧
    (s.state ≠ .sModeEntered → exec (.sFileData data) s = .next (Spec.refused s))

/-- R243: S_FILE_END sends the handshake and arms its deadline. -/
def Obligations.SFileEndCommand : Prop :=
  ∀ (s : State) (name : List Byte),
    encode (.sFileEnd name) = 0x44 :: (le16 (BitVec.ofNat 16 name.length) ++ name) ∧
    (s.state = .sModeEntered →
      exec (.sFileEnd name) s =
        .next { s with
          s_name := name, timer_kind := .hsAck, state := .sAwaitHsAck,
          outputs := s.outputs ++
            [.tx (magicBytes s.params.hsMagic ++ [s.params.protoVersion] ++ le16 (BitVec.ofNat 16 name.length) ++
                le64 s.s_total ++ le32 s.s_fcrc ++ name),
              .timerArm .hsAck],
          responses := Spec.ok s }) ∧
    (s.state ≠ .sModeEntered → exec (.sFileEnd name) s = .next (Spec.refused s))

/-- R244 with R246: the handshake's answer. -/
def Obligations.RxHandshakeAnswer : Prop :=
  (∀ b, encode (.evRx b) = [0x50, b]) ∧
  ∀ s : State, s.state = .sAwaitHsAck →
    exec (.evRx s.params.ackByte) s =
      .next (Spec.blockAsked
        { s with
          s_seq := 0, s_sent := 0, s_att := 0, timer_kind := .none,
          outputs := s.outputs ++ Spec.stopped s ++
            [.tx (magicBytes s.params.sessMagic ++ [s.params.protoVersion] ++ le64 s.s_total ++ le32 s.s_fcrc)] }) ∧
    (s.params.WellFormed → exec (.evRx s.params.nakByte) s = .next (Spec.failed .protocolMismatch s)) ∧
    (∀ b, b ≠ s.params.ackByte → b ≠ s.params.nakByte → exec (.evRx b) s = .next { s with responses := Spec.ok s })

/-- R247: S_BLOCK_DATA builds and transmits the block frame; a wrong length is an I/O error. -/
def Obligations.SBlockDataCommand : Prop :=
  ∀ (s : State) (data : List Byte),
    encode (.sBlockData data) = 0x45 :: (le16 (BitVec.ofNat 16 data.length) ++ data) ∧
    (s.state = .sNeedData → data.length = s.s_curlen.toNat →
      exec (.sBlockData data) s =
        .next { s with
          s_frame := le16 s.s_seq ++ le16 s.s_curlen ++ data ++ le32 (crc data 0), s_att := 1,
          timer_kind := .blockResp, state := .sAwaitResp,
          outputs := s.outputs ++
            [.tx (le16 s.s_seq ++ le16 s.s_curlen ++ data ++ le32 (crc data 0)), .timerArm .blockResp],
          responses := Spec.ok s }) ∧
    (s.state = .sNeedData → data.length ≠ s.s_curlen.toNat →
      exec (.sBlockData data) s = .next (Spec.failed .ioError s)) ∧
    (s.state ≠ .sNeedData → exec (.sBlockData data) s = .next (Spec.refused s))

/-- R248 with R246: an ACK ends the block's loop; the sequence number wraps modulo 65536. -/
def Obligations.RxBlockAck : Prop :=
  (∀ b, encode (.evRx b) = [0x50, b]) ∧
  ∀ s : State, s.state = .sAwaitResp → s.s_sent.toNat + s.s_curlen.toNat ≤ s.s_total.toNat →
    ∃ (sent : Dword) (seq : Half), sent.toNat = s.s_sent.toNat + s.s_curlen.toNat ∧
      seq.toNat = (s.s_seq.toNat + 1) % 65536 ∧
      exec (.evRx s.params.ackByte) s =
        .next (Spec.blockAsked
          { s with
            s_sent := sent, s_seq := seq, s_att := 0, timer_kind := .none,
            outputs := s.outputs ++ Spec.stopped s })

/-- R249, R250, R251: a NAK, a timeout, or another byte under AsNak costs an attempt; another byte under Ignore does
nothing. -/
def Obligations.BlockAttemptFails : Prop :=
  (∀ b, encode (.evRx b) = [0x50, b]) ∧ encode .evTimeout = [0x51] ∧
  ∀ s : State, s.state = .sAwaitResp →
    (s.params.WellFormed → exec (.evRx s.params.nakByte) s = .next (Spec.attemptLost s)) ∧
    (∀ b, b ≠ s.params.ackByte → b ≠ s.params.nakByte → s.params.blockWaitOther = .asNak →
      exec (.evRx b) s = .next (Spec.attemptLost s)) ∧
    (∀ b, b ≠ s.params.ackByte → b ≠ s.params.nakByte → s.params.blockWaitOther = .ignore →
      exec (.evRx b) s = .next { s with responses := Spec.ok s }) ∧
    (s.timer_kind = .blockResp → exec .evTimeout s = .next (Spec.attemptLost s))

/-- R252: the two bytes of the final status token. -/
def Obligations.RxFinalToken : Prop :=
  (∀ b, encode (.evRx b) = [0x50, b]) ∧
  ∀ (s : State) (b : Byte), s.state = .sAwaitFinal →
    (s.s_fin = [] → exec (.evRx b) s = .next { s with s_fin := [b], responses := Spec.ok s }) ∧
    (∀ a, s.s_fin = [a] →
      exec (.evRx b) s =
        if (⟨a, b⟩ : Bytes2) = s.params.okToken then
          .next { s with
            s_fin := [a, b], timer_kind := .none, state := .sDone,
            outputs := s.outputs ++ Spec.stopped s ++ [.endTransfer .none], responses := Spec.ok s }
        else .next (Spec.failed .integrityFile { s with s_fin := [a, b] }))

/- The receiver. -/

/-- R292 and R297 with R317: one byte of a sync. -/
def Obligations.RxSyncByte : Prop :=
  (∀ b, encode (.evRx b) = [0x50, b]) ∧
  ∀ (s : State) (b : Byte),
    (s.state = .rSyncHs →
      exec (.evRx b) s =
        if lastN 4 (s.e_win ++ [b]) = magicBytes s.params.hsMagic then
          .next (Spec.answered (Spec.reading .rReadHsFixed { s with e_win := [] }))
        else .next { s with e_win := lastN 4 (s.e_win ++ [b]), responses := Spec.ok s }) ∧
    (s.state = .rSyncSess →
      exec (.evRx b) s =
        if lastN 4 (s.e_win ++ [b]) = magicBytes s.params.sessMagic then
          .next (Spec.answered (Spec.reading .rReadSess { s with e_win := [] }))
        else .next { s with e_win := lastN 4 (s.e_win ++ [b]), responses := Spec.ok s })

/-- R294 with R296, R317: the 15 fixed handshake bytes. -/
def Obligations.RxHandshakeFixed : Prop :=
  (∀ b, encode (.evRx b) = [0x50, b]) ∧
  ∀ (s : State) (b : Byte), s.state = .rReadHsFixed →
    (s.r_buf.length ≠ 14 → exec (.evRx b) s = .next { s with r_buf := s.r_buf ++ [b], responses := Spec.ok s }) ∧
    (∀ (v : Byte) (n : Half) (T : Dword) (C : Word), s.r_buf ++ [b] = [v] ++ le16 n ++ le64 T ++ le32 C →
      exec (.evRx b) s =
        if n = 0 then
          .next (Spec.handshakeDone
            { s with
              r_buf := s.r_buf ++ [b], r_version := v, r_name_len := n, r_total := T, r_fcrc := C, r_name := [] })
        else
          .next (Spec.answered (Spec.reading .rReadHsName
            { s with r_version := v, r_name_len := n, r_total := T, r_fcrc := C, r_name := [] })))

/-- R295 with R296: the name bytes. -/
def Obligations.RxHandshakeName : Prop :=
  (∀ b, encode (.evRx b) = [0x50, b]) ∧
  ∀ (s : State) (b : Byte), s.state = .rReadHsName →
    exec (.evRx b) s =
      if s.r_name.length + 1 = s.r_name_len.toNat then
        .next (Spec.handshakeDone { s with r_name := s.r_name ++ [b] })
      else .next { s with r_name := s.r_name ++ [b], responses := Spec.ok s }

/-- R300 with R298, R301: the session frame must agree with the handshake. -/
def Obligations.RxSession : Prop :=
  (∀ b, encode (.evRx b) = [0x50, b]) ∧
  ∀ (s : State) (b : Byte), s.state = .rReadSess →
    (s.r_buf.length ≠ 12 → exec (.evRx b) s = .next { s with r_buf := s.r_buf ++ [b], responses := Spec.ok s }) ∧
    (∀ (v : Byte) (T : Dword) (C : Word), s.r_buf ++ [b] = [v] ++ le64 T ++ le32 C →
      exec (.evRx b) s =
        if v = s.r_version ∧ T = s.r_total ∧ C = s.r_fcrc then
          .next (Spec.looped
            { s with
              r_buf := s.r_buf ++ [b], r_exp_seq := 0, r_count := 0, r_run_crc := 0, r_verdict := .none,
              temp_open := if s.params.openTempAt = .sessionValidated then true else s.temp_open,
              outputs := s.outputs ++
                (if s.params.openTempAt = .sessionValidated then [.openTemp s.r_name] else []) })
        else .next (Spec.failed .protocolMismatch { s with r_buf := s.r_buf ++ [b] }))

/-- R302 with R317: the block header. -/
def Obligations.RxBlockHeader : Prop :=
  (∀ b, encode (.evRx b) = [0x50, b]) ∧
  ∀ (s : State) (b : Byte), s.state = .rBlkHdr →
    (s.r_buf.length ≠ 3 → exec (.evRx b) s = .next { s with r_buf := s.r_buf ++ [b], responses := Spec.ok s }) ∧
    (∀ q n : Half, s.r_buf ++ [b] = le16 q ++ le16 n →
      exec (.evRx b) s =
        .next (Spec.answered (Spec.reading (if n = 0 then .rBlkCrc else .rBlkPayload)
          { s with r_blk_seq := q, r_blk_len := n, r_payload := [] })))

/-- R303 with R317: the payload bytes. -/
def Obligations.RxBlockPayload : Prop :=
  (∀ b, encode (.evRx b) = [0x50, b]) ∧
  ∀ (s : State) (b : Byte), s.state = .rBlkPayload →
    exec (.evRx b) s =
      if s.r_payload.length + 1 = s.r_blk_len.toNat then
        .next (Spec.answered (Spec.reading .rBlkCrc { s with r_payload := s.r_payload ++ [b] }))
      else .next { s with r_payload := s.r_payload ++ [b], responses := Spec.ok s }

/-- R304, R305, R306 with R301, R307: the decision on a block. -/
def Obligations.RxBlockDecision : Prop :=
  (∀ b, encode (.evRx b) = [0x50, b]) ∧
  ∀ (s : State) (b : Byte), s.state = .rBlkCrc →
    (s.r_buf.length ≠ 3 → exec (.evRx b) s = .next { s with r_buf := s.r_buf ++ [b], responses := Spec.ok s }) ∧
    (∀ C : Word, s.r_buf ++ [b] = le32 C →
      (s.r_blk_seq = s.r_exp_seq → crc s.r_payload 0 = C →
        ∃ seq : Half, seq.toNat = (s.r_exp_seq.toNat + 1) % 65536 ∧
          exec (.evRx b) s =
            .next (Spec.looped
              { s with
                r_buf := s.r_buf ++ [b], r_count := s.r_count + s.r_blk_len.toNat,
                r_run_crc := crc s.r_payload s.r_run_crc, r_exp_seq := seq, r_verdict := .accepted,
                outputs := s.outputs ++ [.writeTemp s.r_payload, .tx [s.params.ackByte]] })) ∧
      (¬ (s.r_blk_seq = s.r_exp_seq ∧ crc s.r_payload 0 = C) →
        exec (.evRx b) s =
          .next (Spec.looped
            { s with
              r_buf := s.r_buf ++ [b],
              r_verdict :=
                if s.r_blk_seq ≠ s.r_exp_seq ∧ crc s.r_payload 0 ≠ C then .badBoth
                else if s.r_blk_seq ≠ s.r_exp_seq then .badSeq else .badCrc,
              outputs := s.outputs ++ [.tx [s.params.nakByte]] })))

/-- 44_receiver.md section 4, one block of the round trip of section 6 (an inference): a whole intact frame delivered
byte by byte to a receiver waiting for a header is written, counted and acknowledged (ACK_BYTE is transmitted), and the
engine waits for the next header or makes the final check. -/
def Obligations.WholeBlockIsAccepted : Prop :=
  ∀ (s : State) (payload : List Byte), s.state = .rBlkHdr → s.r_buf = [] → payload.length ≤ 65535 →
    ∃ t, receive (encodeBlock s.r_exp_seq payload (crc payload 0)) s = .next t ∧
      t.r_count = s.r_count + payload.length ∧ t.r_run_crc = crc payload s.r_run_crc ∧
      t.r_exp_seq = s.r_exp_seq + 1 ∧ t.r_verdict = .accepted ∧
      tempContent t.outputs = tempContent s.outputs ++ payload ∧
      (∃ outs, t.outputs = s.outputs ++ outs ∧ Output.tx [s.params.ackByte] ∈ outs) ∧
      (t.r_count < s.r_total.toNat → t.state = .rBlkHdr ∧ t.r_buf = [] ∧ t.error = s.error) ∧
      (s.r_total.toNat ≤ t.r_count → t.r_run_crc = s.r_fcrc → t.state = .rCommitted ∧ t.error = s.error) ∧
      (s.r_total.toNat ≤ t.r_count → t.r_run_crc ≠ s.r_fcrc → t.state = .rKeptPartial ∧ t.error = .integrityFile)

/-- 44_receiver.md section 6, "Block integrity rejection" (marked [derived]): a block frame with one payload bit
flipped is answered with NAK alone and leaves count, expected sequence number, running CRC and temporary file as they
were. -/
def Obligations.FlippedBitIsRejected : Prop :=
  ∀ (s : State) (before after : List Byte) (x : Byte) (k : Nat), s.state = .rBlkHdr → s.r_buf = [] →
    s.r_count < s.r_total.toNat → (before ++ x :: after).length ≤ 65535 → k < 8 →
    ∃ t, receive
        (le16 s.r_exp_seq ++ le16 (BitVec.ofNat 16 (before ++ x :: after).length) ++
          (before ++ (x ^^^ BitVec.twoPow 8 k) :: after) ++ le32 (crc (before ++ x :: after) 0)) s = .next t ∧
      t.state = .rBlkHdr ∧ t.r_buf = [] ∧ t.r_verdict = .badCrc ∧ t.r_count = s.r_count ∧
      t.r_exp_seq = s.r_exp_seq ∧ t.r_run_crc = s.r_run_crc ∧ t.error = s.error ∧
      ∃ outs, t.outputs = s.outputs ++ outs ∧
        outs.filter (fun o => match o with | .timerArm _ | .timerStop => false | _ => true) =
          [.tx [s.params.nakByte]]

/-- 42_sync.md section 1, "Scan semantics" (marked [derived]), at the receiver: noise before the handshake magic is
skipped, and the read of the fixed fields begins at the byte after the magic. -/
def Obligations.SyncSkipsNoise : Prop :=
  ∀ (s : State) (noise : List Byte), s.state = .rSyncHs → s.e_win = [] →
    (∀ pre post, noise ++ magicBytes s.params.hsMagic = pre ++ magicBytes s.params.hsMagic ++ post → post = []) →
    ∃ t, receive (noise ++ magicBytes s.params.hsMagic) s = .next t ∧
      t = { Spec.reading .rReadHsFixed { s with e_win := [] } with
        responses := s.responses ++ List.replicate (noise.length + 4) ⟨.ok, []⟩ }

/-- 44_receiver.md section 2, the steps of a handshake composed (an inference): the fields and the name of a whole
handshake of the expected version, delivered byte by byte, are latched and acknowledged. -/
def Obligations.WholeHandshakeIsAcknowledged : Prop :=
  ∀ (s : State) (name : List Byte) (T : Dword) (C : Word), s.state = .rReadHsFixed → s.r_buf = [] →
    name.length ≤ 65535 →
    ∃ t outs, receive
        ([s.params.protoVersion] ++ le16 (BitVec.ofNat 16 name.length) ++ le64 T ++ le32 C ++ name) s = .next t ∧
      t.state = .rSyncSess ∧ t.role = s.role ∧ t.error = s.error ∧ t.e_win = [] ∧ t.timer_kind = .sessSync ∧
      t.r_version = s.params.protoVersion ∧ t.r_name_len.toNat = name.length ∧ t.r_total = T ∧ t.r_fcrc = C ∧
      t.r_name = name ∧ t.r_count = s.r_count ∧ t.outputs = s.outputs ++ outs ∧
      outs.getLast? = some (.timerArm .sessSync) ∧ Output.tx [s.params.ackByte] ∈ outs

/- Events, control and refusals. -/

/-- R245, R253, R293, R299, R308: a deadline that expires outside the block-response wait is fatal. -/
def Obligations.TimeoutIsFatal : Prop :=
  encode .evTimeout = [0x51] ∧
  ∀ s : State,
    (s.state = .sAwaitHsAck → s.timer_kind = .hsAck → exec .evTimeout s = .next (Spec.failed .linkTimeout s)) ∧
    (s.state = .sAwaitFinal → s.timer_kind = .final → exec .evTimeout s = .next (Spec.failed .integrityFile s)) ∧
    (s.state = .rSyncHs → s.timer_kind = .hsSync → exec .evTimeout s = .next (Spec.failed .linkTimeout s)) ∧
    (s.state = .rSyncSess → s.timer_kind = .sessSync → exec .evTimeout s = .next (Spec.failed .linkTimeout s)) ∧
    (s.state = .rReadHsFixed ∨ s.state = .rReadHsName ∨ s.state = .rReadSess ∨ s.state = .rBlkHdr ∨
        s.state = .rBlkPayload ∨ s.state = .rBlkCrc → s.timer_kind = .rxRead →
      exec .evTimeout s = .next (Spec.failed .linkTimeout s))

/-- R354, R355: EV_IO_ERROR and EV_ABORT outside IDLE and the terminal states. -/
def Obligations.HostAborts : Prop :=
  encode .evIoError = [0x52] ∧ encode .evAbort = [0x53] ∧
  ∀ s : State,
    (s.state ≠ .idle → stateKind s.state ≠ .terminal →
      exec .evIoError s = .next (Spec.failed .ioError s) ∧ exec .evAbort s = .next (Spec.failed .interrupted s)) ∧
    (s.state = .idle ∨ stateKind s.state = .terminal →
      exec .evIoError s = .next (Spec.notTaken s) ∧ exec .evAbort s = .next (Spec.notTaken s))

/-- R414 with R411 and R38: port events that are not enabled change nothing, and those that are enabled are taken:
EV_RX exactly in the states of R38; EV_TIMEOUT with no deadline armed is not, and in a state that satisfies the control
invariant one with a deadline armed is; EV_IO_ERROR and EV_ABORT exactly outside IDLE and the terminal states. -/
def Obligations.DisabledEventsChangeNothing : Prop :=
  (∀ b, encode (.evRx b) = [0x50, b]) ∧
  ∀ s : State,
    (s.state ∉ Spec.readingStates → ∀ b, exec (.evRx b) s = .next (Spec.notTaken s)) ∧
    (s.state ∈ Spec.readingStates → ∀ b, ∃ t, exec (.evRx b) s = .next t ∧ t.responses = Spec.ok s) ∧
    (s.timer_kind = .none → exec .evTimeout s = .next (Spec.notTaken s)) ∧
    (ControlInv s → s.timer_kind ≠ .none → ∃ t, exec .evTimeout s = .next t ∧ t.responses = Spec.ok s) ∧
    (s.state = .idle ∨ s.state ∈ Spec.terminalStates →
      exec .evIoError s = .next (Spec.notTaken s) ∧ exec .evAbort s = .next (Spec.notTaken s)) ∧
    (s.state ≠ .idle → s.state ∉ Spec.terminalStates →
      (∃ t, exec .evIoError s = .next t ∧ t.responses = Spec.ok s) ∧
      ∃ t, exec .evAbort s = .next t ∧ t.responses = Spec.ok s)

/-- R68 with the codes of R32, R33, R400, R412 and the lists of R38 and R67: the STATUS word, field by field, and what
reading it leaves. -/
def Obligations.StatusWordFields : Prop :=
  ∀ s : State, ∃ v : Dword,
    exec (.regRead 0x00) s = .next { s with responses := s.responses ++ [⟨.ok, le64 v⟩] } ∧
    v.extractLsb' 0 8 = Spec.stateNumber s.state ∧ v.extractLsb' 8 8 = Spec.errorNumber s.error ∧
    v.extractLsb' 16 2 = Spec.roleNumber s.role ∧ v.getLsbD 18 = decide (s.state ∈ Spec.terminalStates) ∧
    v.getLsbD 19 = s.illegal ∧ v.getLsbD 20 = decide (s.state ∈ Spec.readingStates) ∧
    v.extractLsb' 21 3 = Spec.timerNumber s.timer_kind ∧ v.getLsbD 24 = s.temp_open ∧ v.extractLsb' 25 39 = 0

/-- 10_state.md section 6 and 45_control.md section 2: the sender's, the receiver's and the units' registers, and the
CFG registers, read by REG_READ; the verdict by its number in R63. -/
def Obligations.RegisterMapValues : Prop :=
  (∀ a, encode (.regRead a) = [0x60, a]) ∧
  ∀ s : State,
    ∀ p ∈ ([(0x01, s.s_block.toNat), (0x02, s.s_maxatt.toNat), (0x03, s.s_seq.toNat), (0x04, s.s_att.toNat),
        (0x05, s.s_total.toNat), (0x06, s.s_fcrc.toNat), (0x07, s.s_sent.toNat), (0x08, s.s_curlen.toNat),
        (0x09, s.s_name.length), (0x0A, s.s_fin.length), (0x10, s.r_exp_seq.toNat), (0x11, s.r_total.toNat),
        (0x12, s.r_fcrc.toNat), (0x13, s.r_count), (0x14, s.r_run_crc.toNat), (0x15, s.r_name_len.toNat),
        (0x16, s.r_version.toNat), (0x17, Spec.verdictNumber s.r_verdict), (0x18, s.r_blk_seq.toNat),
        (0x19, s.r_blk_len.toNat), (0x20, s.crc_unit.toNat),
        (0x22, s.sc_magic.b0.toNat + 2 ^ 8 * s.sc_magic.b1.toNat + 2 ^ 16 * s.sc_magic.b2.toNat +
          2 ^ 24 * s.sc_magic.b3.toNat),
        (0x30, s.params.protoVersion.toNat),
        (0x31, s.params.ackByte.toNat + 2 ^ 8 * s.params.nakByte.toNat),
        (0x32, s.params.okToken.b0.toNat + 2 ^ 8 * s.params.okToken.b1.toNat + 2 ^ 16 * s.params.noToken.b0.toNat +
          2 ^ 24 * s.params.noToken.b1.toNat),
        (0x33, s.params.hsMagic.b0.toNat + 2 ^ 8 * s.params.hsMagic.b1.toNat + 2 ^ 16 * s.params.hsMagic.b2.toNat +
          2 ^ 24 * s.params.hsMagic.b3.toNat),
        (0x34, s.params.sessMagic.b0.toNat + 2 ^ 8 * s.params.sessMagic.b1.toNat +
          2 ^ 16 * s.params.sessMagic.b2.toNat + 2 ^ 24 * s.params.sessMagic.b3.toNat),
        (0x35, (if s.params.blockWaitOther = .ignore then 1 else 0) +
          (if s.params.openTempAt = .handshakeParsed then 2 else 0) +
          (if s.params.rxReadDeadline then 4 else 0))] : List (Byte × Nat)),
      exec (.regRead p.1) s =
        .next { s with responses := s.responses ++ [⟨.ok, le64 (BitVec.ofNat 64 p.2)⟩] }

/-- 10_state.md section 6: the two packed registers R_FILL and SYNC_STATE, in states whose buffers keep the bounds
that 10_state.md gives them. -/
def Obligations.PackedRegisterFields : Prop :=
  ∀ s : State, s.r_buf.length ≤ 15 → s.r_payload.length ≤ 65535 → s.e_win.length ≤ 4 → s.sc_win.length ≤ 4 →
    ∃ f y : Dword,
      exec (.regRead 0x1A) s = .next { s with responses := s.responses ++ [⟨.ok, le64 f⟩] } ∧
      exec (.regRead 0x21) s = .next { s with responses := s.responses ++ [⟨.ok, le64 y⟩] } ∧
      f.toNat = s.r_buf.length + 2 ^ 16 * s.r_payload.length + 2 ^ 32 * s.e_win.length ∧
      (∀ i, i < 4 → y.extractLsb' (8 * i) 8 = if i < s.sc_win.length then byteAt s.sc_win i else 0) ∧
      (y.extractLsb' 32 3).toNat = s.sc_win.length ∧ y.getLsbD 35 = s.sc_armed ∧ y.getLsbD 36 = s.sc_matched ∧
      y.extractLsb' 37 27 = 0

/-- 45_control.md section 2 and 10_state.md section 6: REG_READ of a reserved address is refused, and every register
of the map is read with no side effect. That the map has the 31 addresses of the table of R69, where R80 counts 30, is
the model's reading (log 7). -/
def Obligations.ReservedRegistersAreRefused : Prop :=
  ∀ (s : State) (a : Byte),
    (a.toNat ∈ List.range' 0x0B 5 ++ List.range' 0x1B 5 ++ List.range' 0x23 13 ++ List.range' 0x36 202 →
      exec (.regRead a) s = .next (Spec.refused s)) ∧
    (a.toNat ∉ List.range' 0x0B 5 ++ List.range' 0x1B 5 ++ List.range' 0x23 13 ++ List.range' 0x36 202 →
      ∃ v : Dword, exec (.regRead a) s = .next { s with responses := s.responses ++ [⟨.ok, le64 v⟩] })

/-- R353 with R452: RESET from every state. -/
def Obligations.ResetCommand : Prop :=
  encode .reset = [0x61] ∧
  ∀ s : State,
    exec .reset s =
      .next { State.reset with
        params := s.params, cmd_port := s.cmd_port, outputs := s.outputs ++ Spec.stopped s,
        responses := Spec.ok s }

/-- R450: the reset value of every field of 10_state.md, and STATUS reads 0. -/
def Obligations.ResetValues : Prop :=
  State.reset.state = .idle ∧ State.reset.role = .none ∧ State.reset.error = .none ∧
  State.reset.illegal = false ∧ State.reset.timer_kind = .none ∧ State.reset.temp_open = false ∧
  senderAtReset State.reset ∧ receiverAtReset State.reset ∧ State.reset.crc_unit = 0 ∧
  State.reset.sc_magic = ⟨0, 0, 0, 0⟩ ∧ State.reset.sc_win = [] ∧ State.reset.sc_armed = false ∧
  State.reset.sc_matched = false ∧ regValue State.reset 0x00 = some 0

/- The step and the encoding. -/

/-- 45_control.md section 1, the top-level step (the command port is the model's, log 2): a command on the port that
decodes is run by `exec` after it has left the port; one that does not is refused. -/
def Obligations.StepRunsDecodedCommand : Prop :=
  ∀ (s : State) (cmd : List Byte) (rest : List (List Byte)), s.params.WellFormed → s.cmd_port = cmd :: rest →
    (∀ i, decode cmd = .ok i → step s = exec i { s with cmd_port := rest }) ∧
    (∀ e, decode cmd = .error e → step s = .next (Spec.refused { s with cmd_port := rest }))

/-- The model's own choice (logs 2 and 5): ill-formed parameters, and nothing else, are refused by name (00_scope.md
section 5), and an engine with nothing on its command port keeps all state (60_exceptions.md section 5). -/
def Obligations.StepWithoutCommand : Prop :=
  (∀ s : State, step s = .refused .illFormedParameters ↔ ¬ s.params.WellFormed) ∧
  (∀ s : State, s.params.WellFormed → s.cmd_port = [] → step s = .next s)

/-- 30_encoding.md section 2: exactly which byte strings are commands, by opcode byte and length. -/
def Obligations.LegalCommands : Prop :=
  ∀ bs : List Byte,
    (∃ i, decode bs = .ok i) ↔
      (bs.head? ∈ [some 0x12, some 0x41, some 0x51, some 0x52, some 0x53, some 0x61] ∧ bs.length = 1) ∨
      (bs.head? ∈ [some 0x26, some 0x31, some 0x42, some 0x50, some 0x60] ∧ bs.length = 2) ∨
      (bs.head? = some 0x27 ∧ bs.length = 3) ∨
      (bs.head? ∈ [some 0x10, some 0x30, some 0x40] ∧ bs.length = 5) ∨
      (bs.head? = some 0x22 ∧ bs.length = 13) ∨
      (bs.head? ∈ [some 0x11, some 0x21, some 0x23, some 0x25, some 0x43, some 0x44, some 0x45] ∧
        bs.length = 3 + ((byteAt bs 1).toNat + 256 * (byteAt bs 2).toNat)) ∨
      (bs.head? = some 0x20 ∧ bs.length = 15 + ((byteAt bs 13).toNat + 256 * (byteAt bs 14).toNat)) ∨
      (bs.head? = some 0x24 ∧ bs.length = 9 + ((byteAt bs 7).toNat + 256 * (byteAt bs 8).toNat))

/-- 30_encoding.md section 2: the decoder reads every well-formed command from its own bytes, with every operand. -/
def Obligations.DecodeOfEncode : Prop :=
  ∀ i : Instr, i.WellFormed → decode (encode i) = .ok i

/-- 30_encoding.md section 2: each byte string means at most one command: what decodes is the encoding of the command
it decodes to, which is well-formed. -/
def Obligations.EncodeOfDecode : Prop :=
  ∀ (bs : List Byte) (i : Instr), decode bs = .ok i → encode i = bs ∧ i.WellFormed

/-- 30_encoding.md section 2: words written out from the opcode map decode to the commands they stand for. -/
def Obligations.WordsDecode : Prop :=
  decode [0x10, 0xA3, 0xE0, 0xE3, 0x9B] = .ok (.crcInit 0x9BE3E0A3) ∧
  decode [0x40, 0x00, 0x02, 0x05, 0x00] = .ok (.sStart 512 5) ∧
  decode [0x24, 0x01, 0x00, 0x6F, 0xDF, 0xB9, 0x06, 0x01, 0x00, 0x63] = .ok (.encBlk 1 0x06B9DF6F [0x63]) ∧
  decode [0x30, 0x57, 0x52, 0x48, 0x53] = .ok (.syncArm ⟨0x57, 0x52, 0x48, 0x53⟩) ∧
  decode [0x50, 0x06] = .ok (.evRx 6) ∧ decode [0x12, 0x00] = .error (.wrongLength 1 2) ∧
  decode [0x13] = .error (.reservedOpcode 0x13) ∧ decode [] = .error .empty

/-- 30_encoding.md and 20_memory.md: a step that takes a command gives exactly one response, whose bytes are the status
byte of R131 and then the result, and only appends to the outputs. The model's own choices: the command port is a queue
(log 2), the logs are cumulative (log 3), and an event that answers NOT_ACCEPTED leaves the port like any other command
(log 4). -/
def Obligations.OneResponsePerCommand : Prop :=
  (∀ r : Response, responseBytes r = Spec.statusNumber r.status :: r.result) ∧
  ∀ (s t : State) (cmd : List Byte) (rest : List (List Byte)), s.cmd_port = cmd :: rest → step s = .next t →
    t.cmd_port = rest ∧ (∃ r, t.responses = s.responses ++ [r]) ∧ ∃ outs, t.outputs = s.outputs ++ outs

/-- 10_state.md section 6 (that the parameters stand in State is the model's, log 1): no step, RESET included, changes
the parameters, so the CFG registers read the same for ever. -/
def Obligations.ParametersAreHardwired : Prop :=
  ∀ s t : State, step s = .next t → t.params = s.params ∧
    ∀ a : Byte, 0x30 ≤ a.toNat → a.toNat ≤ 0x35 → regValue t a = regValue s a

/-- 10_state.md section 1: the refusal mark is sticky: no instruction but RESET clears it. -/
def Obligations.IllegalIsSticky : Prop :=
  ∀ (i : Instr) (s t : State), exec i s = .next t → s.illegal = true → i ≠ .reset → t.illegal = true

/-- 60_exceptions.md section 2, terminal states (marked [derived]): every command but RESET completes there, changes
no transfer field, the error among them, and emits nothing. -/
def Obligations.TerminalIsFinal : Prop :=
  ∀ (i : Instr) (s : State), ControlInv s → stateKind s.state = .terminal → i ≠ .reset →
    ∃ t, exec i s = .next t ∧
      t = { s with
        illegal := t.illegal, crc_unit := t.crc_unit, sc_magic := t.sc_magic, sc_win := t.sc_win,
        sc_armed := t.sc_armed, sc_matched := t.sc_matched, responses := t.responses }

/-- 60_exceptions.md section 2, the fatal entry, over all commands (an inference): a step that enters S_FAILED or
R_FAILED emits TIMER_STOP if a deadline was armed, then END with the latched error, and nothing else: it transmits
nothing. -/
def Obligations.FatalEntryTransmitsNothing : Prop :=
  ∀ (i : Instr) (s t : State), ControlInv s → exec i s = .next t → stateKind s.state ≠ .terminal →
    t.state = .sFailed ∨ t.state = .rFailed →
    t.timer_kind = .none ∧ t.error ≠ .none ∧ t.outputs = s.outputs ++ Spec.stopped s ++ [.endTransfer t.error]

/-- 44_receiver.md section 6 (marked [derived]): the receiver transmits only ACK, NAK and the two final status tokens.
-/
def Obligations.ReceiverTransmitsOnlyTokens : Prop :=
  ∀ (i : Instr) (s t : State), s.role = .receiver → ControlInv s → exec i s = .next t →
    ∃ outs, t.outputs = s.outputs ++ outs ∧
      ∀ x, Output.tx x ∈ outs →
        x = [s.params.ackByte] ∨ x = [s.params.nakByte] ∨ x = tokenBytes s.params.okToken ∨
          x = tokenBytes s.params.noToken

/-- 44_receiver.md section 6, "Final-CRC authority" (marked [derived]): COMMIT is emitted only by a step that leaves
the running CRC equal to the declared one and the count at or past the declared total, in R_COMMITTED. -/
def Obligations.CommitOnlyAfterVerification : Prop :=
  ∀ (i : Instr) (s t : State) (outs : List Output), exec i s = .next t → t.outputs = s.outputs ++ outs →
    Output.commit ∈ outs →
    t.state = .rCommitted ∧ t.r_run_crc = t.r_fcrc ∧ t.r_total.toNat ≤ t.r_count ∧
      Output.tx (tokenBytes t.params.okToken) ∈ outs

/- Invariants. -/

/-- 45_control.md section 5, the timer invariant (marked [derived]), with the roles and the stored states of
10_state.md: every step keeps the control invariant. -/
def Obligations.StepKeepsControlInv : Prop :=
  ∀ s t : State, ControlInv s → step s = .next t → ControlInv t

/-- The bounds of 10_state.md sections 2 to 4 and the consequences of 43_sender.md section 5 and 44_receiver.md
section 6 (marked [derived]): every step keeps the whole invariant. -/
def Obligations.StepKeepsInv : Prop :=
  ∀ s t : State, EngineInv s → step s = .next t → EngineInv t

/-- 70_reset_and_hazards.md section 1: the invariant holds after reset, for every choice of the parameters. -/
def Obligations.ResetHasInv : Prop :=
  ∀ P : Params, EngineInv { State.reset with params := P }

/-- 45_control.md section 5, completeness (marked [derived]): in a state that satisfies the control invariant every
command completes: the model never stops. -/
def Obligations.EveryCommandCompletes : Prop :=
  ∀ s : State, ControlInv s → (∀ i : Instr, ∃ t, exec i s = .next t) ∧ (s.params.WellFormed → ∃ t, step s = .next t)

/-- 44_receiver.md section 6, "Round-trip identity" (marked [derived]): under the lossless host and channel model
(95_test_vectors.md section 2.8, log 15) every file is transferred: the scheduled run ends with the sender in S_DONE,
the receiver in R_COMMITTED and the destination equal to the file. -/
def Obligations.LosslessTransferCompletes : Prop :=
  ∀ (P : Params) (file name : List Byte) (blockSize maxAttempts : Half) (dest : Option (List Byte)),
    P.WellFormed → file.length < 2 ^ 64 → name.length ≤ 65535 → blockSize ≠ 0 → maxAttempts ≠ 0 →
    ∃ n : Nat,
      (scheduled n (linkStart P file name blockSize maxAttempts dest)).sender.state = .sDone ∧
      (scheduled n (linkStart P file name blockSize maxAttempts dest)).receiver.state = .rCommitted ∧
      (scheduled n (linkStart P file name blockSize maxAttempts dest)).receiverHost.dest = some file ∧
      (scheduled n (linkStart P file name blockSize maxAttempts dest)).receiver.r_run_crc = crc file 0

/-- 60_exceptions.md section 6 (R424, marked [derived]): the waits without a deadline, listed. In them no EV_TIMEOUT is
taken; in every other resting state but IDLE a deadline is armed and its expiry is taken. -/
def Obligations.WaitsWithoutDeadline : Prop :=
  ∀ s : State, ControlInv s →
    (s.state ∈ waitsWithoutDeadline s.params ↔
      s.state ∈ [.sModePending, .rModePending, .sModeEntered, .sNeedData] ∨
        (s.params.rxReadDeadline = false ∧
          s.state ∈ [.rReadHsFixed, .rReadHsName, .rReadSess, .rBlkHdr, .rBlkPayload, .rBlkCrc])) ∧
    (s.state ∈ waitsWithoutDeadline s.params → exec .evTimeout s = .next (Spec.notTaken s)) ∧
    (s.state ≠ .idle → s.state ∉ Spec.terminalStates → s.state ∉ waitsWithoutDeadline s.params →
      s.timer_kind ≠ .none ∧ ∃ t, exec .evTimeout s = .next t ∧ t.responses = Spec.ok s)
end

