-- ==== Sys2Proof/Laws/Link.lean ====
section
/-!
SUPPORT. The operations of a whole transfer: what a failed output leaves (70_reset_and_hazards.md R460, R461), what END
closes (20_memory.md R89), what RESET leaves (R452), and the waits that rest on the environment (60_exceptions.md R424).
-/

namespace Sys2Proof.Machine

open Sys2Proof

/-- Without a failure every output is performed, in order (R86). -/
@[simp] theorem performed_none (act : Link → Output → Link) (part : Nat → Link → Output → Link) (outs : List Output)
    (l : Link) : performed act part none outs l = some (outs.foldl act l) := rfl

/-- With a failure: the failed output is one of the step's and one that can fail; the outputs before it are performed,
a part of it may be, and none after it is (R460). -/
theorem performed_some {act : Link → Output → Link} {part : Nat → Link → Output → Link} {f : Failure}
    {outs : List Output} {l l' : Link} (h : performed act part (some f) outs l = some l') :
    ∃ before o after, outs = before ++ o :: after ∧ before.length = f.index ∧ canFail o = true ∧
      l' = part f.done (before.foldl act l) o := by
  simp only [performed] at h
  split at h
  · rename_i o ho
    split at h
    · rename_i hc
      obtain ⟨hlt, rfl⟩ := List.getElem?_eq_some_iff.mp ho
      refine ⟨outs.take f.index, outs[f.index], outs.drop (f.index + 1), ?_, ?_, hc, (Option.some.inj h).symm⟩
      · rw [List.getElem_cons_drop, List.take_append_drop]
      · rw [List.length_take]; omega
    · cases h
  · cases h

/-- TIMER_STOP cannot fail (R89, R460). -/
theorem performed_some_stopOutputs (act : Link → Output → Link) (part : Nat → Link → Output → Link) (f : Failure)
    (k : TimerKind) (l : Link) : performed act part (some f) (stopOutputs k) l = none := by
  cases hp : performed act part (some f) (stopOutputs k) l with
  | none => rfl
  | some l' =>
    obtain ⟨before, o, after, ho, -, hc, -⟩ := performed_some hp
    have hm : o ∈ stopOutputs k := by simp [ho]
    cases k <;> simp [stopOutputs] at hm <;> subst hm <;> cases hc

/-- A host that ended as an I/O error has a nonzero exit status, whatever the engine's END code (R460). -/
theorem hostExit_failed (ended : Option ErrorCode) : hostExit true ended = some 1 := rfl

/-- After END or a failure the channel's end is closed: no byte reaches the engine (R89, R410). -/
theorem deliver_closed {failure : Option Failure} {l : Link} :
    (l.senderHost.channelOpen = false → applyMove failure .deliverToSender l = none) ∧
      (l.receiverHost.channelOpen = false → applyMove failure .deliverToReceiver l = none) := by
  constructor <;> intro h <;> simp only [applyMove, h] <;> split <;> rfl

/-- An expiry is delivered only while a deadline is armed (R89, R462). -/
theorem timeout_disarmed {failure : Option Failure} {l : Link} :
    (l.senderHost.deadline = .none → applyMove failure .timeoutSender l = none) ∧
      (l.receiverHost.deadline = .none → applyMove failure .timeoutReceiver l = none) := by
  constructor <;> intro h <;> simp only [applyMove, h] <;> rfl

/-- Performing TIMER_STOP, or nothing, at either end leaves all but the deadline. -/
theorem foldl_stopOutputs (k : TimerKind) (l : Link) :
    (stopOutputs k).foldl senderOutput l =
        { l with senderHost :=
            { l.senderHost with deadline := if k = .none then l.senderHost.deadline else .none } } ∧
      (stopOutputs k).foldl receiverOutput l =
        { l with receiverHost :=
            { l.receiverHost with deadline := if k = .none then l.receiverHost.deadline else .none } } := by
  cases k <;> exact ⟨rfl, rfl⟩

/-- The engine's RESET: its fields at their reset values, and TIMER_STOP if a deadline was armed (R353). -/
theorem engineStep_reset {s t : State} {outs : List Output} (h : engineStep .reset s = some (t, outs)) :
    outs = stopOutputs s.timer_kind ∧
      t = { State.reset with
        params := s.params, outputs := s.outputs ++ stopOutputs s.timer_kind,
        responses := s.responses ++ [⟨.ok, []⟩] } := by
  unfold engineStep step takeCommand at h
  by_cases hw : s.params.WellFormed
  · simp only [if_pos hw, show runCommand (encode .reset) { s with cmd_port := [] } =
        .next { State.reset with
          params := s.params, outputs := s.outputs ++ stopOutputs s.timer_kind,
          responses := s.responses ++ [⟨.ok, []⟩] } from rfl, Option.some.injEq, Prod.mk.injEq] at h
    exact ⟨by rw [← h.2, List.drop_left], h.1.symm⟩
  · simp only [if_neg hw] at h
    cases h

/-- RESET at the sender touches nothing of its environment but the deadline that TIMER_STOP cancels: the bytes on the
channel, the negotiator's unanswered requests and the source file stay, and so does the whole other side (R452). -/
theorem resetSender_frame {failure : Option Failure} {l l' : Link} (h : applyMove failure .resetSender l = some l') :
    l' = { l with
      sender := { State.reset with
        params := l.sender.params, outputs := l.sender.outputs ++ stopOutputs l.sender.timer_kind,
        responses := l.sender.responses ++ [⟨.ok, []⟩] }
      senderHost := { l.senderHost.abandon with
        deadline := if l.sender.timer_kind = .none then l.senderHost.deadline else .none } } := by
  simp only [applyMove, senderTakes] at h
  split at h
  · rename_i t outs he
    obtain ⟨rfl, rfl⟩ := engineStep_reset he
    cases failure with
    | none =>
      simp only [performed_none, (foldl_stopOutputs _ _).1, Option.isSome_none] at h
      exact (Option.some.inj h).symm
    | some f =>
      rw [performed_some_stopOutputs] at h
      cases h
  · cases h

/-- RESET at the receiver touches nothing of its environment but the deadline that TIMER_STOP cancels: the bytes on the
channel, the negotiator's unanswered requests and the files stay, and so does the whole other side (R452). -/
theorem resetReceiver_frame {failure : Option Failure} {l l' : Link}
    (h : applyMove failure .resetReceiver l = some l') :
    l' = { l with
      receiver := { State.reset with
        params := l.receiver.params, outputs := l.receiver.outputs ++ stopOutputs l.receiver.timer_kind,
        responses := l.receiver.responses ++ [⟨.ok, []⟩] }
      receiverHost := { l.receiverHost.abandon with
        deadline := if l.receiver.timer_kind = .none then l.receiverHost.deadline else .none } } := by
  simp only [applyMove, receiverTakes] at h
  split at h
  · rename_i t outs he
    obtain ⟨rfl, rfl⟩ := engineStep_reset he
    cases failure with
    | none =>
      simp only [performed_none, (foldl_stopOutputs _ _).2, Option.isSome_none] at h
      exact (Option.some.inj h).symm
    | some f =>
      rw [performed_some_stopOutputs] at h
      cases h
  · cases h

/-- The listed waits are the resting states outside IDLE in which no deadline is armed (R424). -/
theorem mem_waitsWithoutDeadline (P : Params) (c : StateCode) :
    c ∈ waitsWithoutDeadline P ↔ stateKind c = .resting ∧ c ≠ .idle ∧ stateTimer P c = .none := by
  unfold waitsWithoutDeadline
  cases c <;> cases h : P.rxReadDeadline <;> simp [stateKind, stateTimer, h]

end Sys2Proof.Machine
end

