-- ==== Sys2Proof/Laws/State.lean ====
section
/-!
SUPPORT. One lemma per field per shared update of State, all true by rfl, so that no later proof unfolds an update.
-/

namespace Sys2Proof.Machine

open Sys2Proof

@[simp] theorem emit_params (o : Output) (s : State) : (emit o s).params = s.params := rfl
@[simp] theorem emit_state (o : Output) (s : State) : (emit o s).state = s.state := rfl
@[simp] theorem emit_role (o : Output) (s : State) : (emit o s).role = s.role := rfl
@[simp] theorem emit_error (o : Output) (s : State) : (emit o s).error = s.error := rfl
@[simp] theorem emit_illegal (o : Output) (s : State) : (emit o s).illegal = s.illegal := rfl
@[simp] theorem emit_timer_kind (o : Output) (s : State) : (emit o s).timer_kind = s.timer_kind := rfl
@[simp] theorem emit_temp_open (o : Output) (s : State) : (emit o s).temp_open = s.temp_open := rfl
@[simp] theorem emit_s_block (o : Output) (s : State) : (emit o s).s_block = s.s_block := rfl
@[simp] theorem emit_s_maxatt (o : Output) (s : State) : (emit o s).s_maxatt = s.s_maxatt := rfl
@[simp] theorem emit_s_total (o : Output) (s : State) : (emit o s).s_total = s.s_total := rfl
@[simp] theorem emit_s_fcrc (o : Output) (s : State) : (emit o s).s_fcrc = s.s_fcrc := rfl
@[simp] theorem emit_s_name (o : Output) (s : State) : (emit o s).s_name = s.s_name := rfl
@[simp] theorem emit_s_seq (o : Output) (s : State) : (emit o s).s_seq = s.s_seq := rfl
@[simp] theorem emit_s_att (o : Output) (s : State) : (emit o s).s_att = s.s_att := rfl
@[simp] theorem emit_s_sent (o : Output) (s : State) : (emit o s).s_sent = s.s_sent := rfl
@[simp] theorem emit_s_curlen (o : Output) (s : State) : (emit o s).s_curlen = s.s_curlen := rfl
@[simp] theorem emit_s_frame (o : Output) (s : State) : (emit o s).s_frame = s.s_frame := rfl
@[simp] theorem emit_s_fin (o : Output) (s : State) : (emit o s).s_fin = s.s_fin := rfl
@[simp] theorem emit_e_win (o : Output) (s : State) : (emit o s).e_win = s.e_win := rfl
@[simp] theorem emit_r_buf (o : Output) (s : State) : (emit o s).r_buf = s.r_buf := rfl
@[simp] theorem emit_r_version (o : Output) (s : State) : (emit o s).r_version = s.r_version := rfl
@[simp] theorem emit_r_name_len (o : Output) (s : State) : (emit o s).r_name_len = s.r_name_len := rfl
@[simp] theorem emit_r_total (o : Output) (s : State) : (emit o s).r_total = s.r_total := rfl
@[simp] theorem emit_r_fcrc (o : Output) (s : State) : (emit o s).r_fcrc = s.r_fcrc := rfl
@[simp] theorem emit_r_name (o : Output) (s : State) : (emit o s).r_name = s.r_name := rfl
@[simp] theorem emit_r_exp_seq (o : Output) (s : State) : (emit o s).r_exp_seq = s.r_exp_seq := rfl
@[simp] theorem emit_r_count (o : Output) (s : State) : (emit o s).r_count = s.r_count := rfl
@[simp] theorem emit_r_run_crc (o : Output) (s : State) : (emit o s).r_run_crc = s.r_run_crc := rfl
@[simp] theorem emit_r_blk_seq (o : Output) (s : State) : (emit o s).r_blk_seq = s.r_blk_seq := rfl
@[simp] theorem emit_r_blk_len (o : Output) (s : State) : (emit o s).r_blk_len = s.r_blk_len := rfl
@[simp] theorem emit_r_payload (o : Output) (s : State) : (emit o s).r_payload = s.r_payload := rfl
@[simp] theorem emit_r_verdict (o : Output) (s : State) : (emit o s).r_verdict = s.r_verdict := rfl
@[simp] theorem emit_crc_unit (o : Output) (s : State) : (emit o s).crc_unit = s.crc_unit := rfl
@[simp] theorem emit_sc_magic (o : Output) (s : State) : (emit o s).sc_magic = s.sc_magic := rfl
@[simp] theorem emit_sc_win (o : Output) (s : State) : (emit o s).sc_win = s.sc_win := rfl
@[simp] theorem emit_sc_armed (o : Output) (s : State) : (emit o s).sc_armed = s.sc_armed := rfl
@[simp] theorem emit_sc_matched (o : Output) (s : State) : (emit o s).sc_matched = s.sc_matched := rfl
@[simp] theorem emit_cmd_port (o : Output) (s : State) : (emit o s).cmd_port = s.cmd_port := rfl
@[simp] theorem emit_outputs (o : Output) (s : State) : (emit o s).outputs = s.outputs ++ [o] := rfl
@[simp] theorem emit_responses (o : Output) (s : State) : (emit o s).responses = s.responses := rfl

@[simp] theorem respond_params (st : Status) (r : List Byte) (s : State) : (respond st r s).params = s.params := rfl
@[simp] theorem respond_state (st : Status) (r : List Byte) (s : State) : (respond st r s).state = s.state := rfl
@[simp] theorem respond_role (st : Status) (r : List Byte) (s : State) : (respond st r s).role = s.role := rfl
@[simp] theorem respond_error (st : Status) (r : List Byte) (s : State) : (respond st r s).error = s.error := rfl
@[simp] theorem respond_illegal (st : Status) (r : List Byte) (s : State) : (respond st r s).illegal = s.illegal := rfl
@[simp] theorem respond_timer_kind (st : Status) (r : List Byte) (s : State) : (respond st r s).timer_kind = s.timer_kind := rfl
@[simp] theorem respond_temp_open (st : Status) (r : List Byte) (s : State) : (respond st r s).temp_open = s.temp_open := rfl
@[simp] theorem respond_s_block (st : Status) (r : List Byte) (s : State) : (respond st r s).s_block = s.s_block := rfl
@[simp] theorem respond_s_maxatt (st : Status) (r : List Byte) (s : State) : (respond st r s).s_maxatt = s.s_maxatt := rfl
@[simp] theorem respond_s_total (st : Status) (r : List Byte) (s : State) : (respond st r s).s_total = s.s_total := rfl
@[simp] theorem respond_s_fcrc (st : Status) (r : List Byte) (s : State) : (respond st r s).s_fcrc = s.s_fcrc := rfl
@[simp] theorem respond_s_name (st : Status) (r : List Byte) (s : State) : (respond st r s).s_name = s.s_name := rfl
@[simp] theorem respond_s_seq (st : Status) (r : List Byte) (s : State) : (respond st r s).s_seq = s.s_seq := rfl
@[simp] theorem respond_s_att (st : Status) (r : List Byte) (s : State) : (respond st r s).s_att = s.s_att := rfl
@[simp] theorem respond_s_sent (st : Status) (r : List Byte) (s : State) : (respond st r s).s_sent = s.s_sent := rfl
@[simp] theorem respond_s_curlen (st : Status) (r : List Byte) (s : State) : (respond st r s).s_curlen = s.s_curlen := rfl
@[simp] theorem respond_s_frame (st : Status) (r : List Byte) (s : State) : (respond st r s).s_frame = s.s_frame := rfl
@[simp] theorem respond_s_fin (st : Status) (r : List Byte) (s : State) : (respond st r s).s_fin = s.s_fin := rfl
@[simp] theorem respond_e_win (st : Status) (r : List Byte) (s : State) : (respond st r s).e_win = s.e_win := rfl
@[simp] theorem respond_r_buf (st : Status) (r : List Byte) (s : State) : (respond st r s).r_buf = s.r_buf := rfl
@[simp] theorem respond_r_version (st : Status) (r : List Byte) (s : State) : (respond st r s).r_version = s.r_version := rfl
@[simp] theorem respond_r_name_len (st : Status) (r : List Byte) (s : State) : (respond st r s).r_name_len = s.r_name_len := rfl
@[simp] theorem respond_r_total (st : Status) (r : List Byte) (s : State) : (respond st r s).r_total = s.r_total := rfl
@[simp] theorem respond_r_fcrc (st : Status) (r : List Byte) (s : State) : (respond st r s).r_fcrc = s.r_fcrc := rfl
@[simp] theorem respond_r_name (st : Status) (r : List Byte) (s : State) : (respond st r s).r_name = s.r_name := rfl
@[simp] theorem respond_r_exp_seq (st : Status) (r : List Byte) (s : State) : (respond st r s).r_exp_seq = s.r_exp_seq := rfl
@[simp] theorem respond_r_count (st : Status) (r : List Byte) (s : State) : (respond st r s).r_count = s.r_count := rfl
@[simp] theorem respond_r_run_crc (st : Status) (r : List Byte) (s : State) : (respond st r s).r_run_crc = s.r_run_crc := rfl
@[simp] theorem respond_r_blk_seq (st : Status) (r : List Byte) (s : State) : (respond st r s).r_blk_seq = s.r_blk_seq := rfl
@[simp] theorem respond_r_blk_len (st : Status) (r : List Byte) (s : State) : (respond st r s).r_blk_len = s.r_blk_len := rfl
@[simp] theorem respond_r_payload (st : Status) (r : List Byte) (s : State) : (respond st r s).r_payload = s.r_payload := rfl
@[simp] theorem respond_r_verdict (st : Status) (r : List Byte) (s : State) : (respond st r s).r_verdict = s.r_verdict := rfl
@[simp] theorem respond_crc_unit (st : Status) (r : List Byte) (s : State) : (respond st r s).crc_unit = s.crc_unit := rfl
@[simp] theorem respond_sc_magic (st : Status) (r : List Byte) (s : State) : (respond st r s).sc_magic = s.sc_magic := rfl
@[simp] theorem respond_sc_win (st : Status) (r : List Byte) (s : State) : (respond st r s).sc_win = s.sc_win := rfl
@[simp] theorem respond_sc_armed (st : Status) (r : List Byte) (s : State) : (respond st r s).sc_armed = s.sc_armed := rfl
@[simp] theorem respond_sc_matched (st : Status) (r : List Byte) (s : State) : (respond st r s).sc_matched = s.sc_matched := rfl
@[simp] theorem respond_cmd_port (st : Status) (r : List Byte) (s : State) : (respond st r s).cmd_port = s.cmd_port := rfl
@[simp] theorem respond_outputs (st : Status) (r : List Byte) (s : State) : (respond st r s).outputs = s.outputs := rfl
@[simp] theorem respond_responses (st : Status) (r : List Byte) (s : State) : (respond st r s).responses = s.responses ++ [⟨st, r⟩] := rfl

@[simp] theorem setState_params (c : StateCode) (s : State) : (setState c s).params = s.params := rfl
@[simp] theorem setState_state (c : StateCode) (s : State) : (setState c s).state = c := rfl
@[simp] theorem setState_role (c : StateCode) (s : State) : (setState c s).role = s.role := rfl
@[simp] theorem setState_error (c : StateCode) (s : State) : (setState c s).error = s.error := rfl
@[simp] theorem setState_illegal (c : StateCode) (s : State) : (setState c s).illegal = s.illegal := rfl
@[simp] theorem setState_timer_kind (c : StateCode) (s : State) : (setState c s).timer_kind = s.timer_kind := rfl
@[simp] theorem setState_temp_open (c : StateCode) (s : State) : (setState c s).temp_open = s.temp_open := rfl
@[simp] theorem setState_s_block (c : StateCode) (s : State) : (setState c s).s_block = s.s_block := rfl
@[simp] theorem setState_s_maxatt (c : StateCode) (s : State) : (setState c s).s_maxatt = s.s_maxatt := rfl
@[simp] theorem setState_s_total (c : StateCode) (s : State) : (setState c s).s_total = s.s_total := rfl
@[simp] theorem setState_s_fcrc (c : StateCode) (s : State) : (setState c s).s_fcrc = s.s_fcrc := rfl
@[simp] theorem setState_s_name (c : StateCode) (s : State) : (setState c s).s_name = s.s_name := rfl
@[simp] theorem setState_s_seq (c : StateCode) (s : State) : (setState c s).s_seq = s.s_seq := rfl
@[simp] theorem setState_s_att (c : StateCode) (s : State) : (setState c s).s_att = s.s_att := rfl
@[simp] theorem setState_s_sent (c : StateCode) (s : State) : (setState c s).s_sent = s.s_sent := rfl
@[simp] theorem setState_s_curlen (c : StateCode) (s : State) : (setState c s).s_curlen = s.s_curlen := rfl
@[simp] theorem setState_s_frame (c : StateCode) (s : State) : (setState c s).s_frame = s.s_frame := rfl
@[simp] theorem setState_s_fin (c : StateCode) (s : State) : (setState c s).s_fin = s.s_fin := rfl
@[simp] theorem setState_e_win (c : StateCode) (s : State) : (setState c s).e_win = s.e_win := rfl
@[simp] theorem setState_r_buf (c : StateCode) (s : State) : (setState c s).r_buf = s.r_buf := rfl
@[simp] theorem setState_r_version (c : StateCode) (s : State) : (setState c s).r_version = s.r_version := rfl
@[simp] theorem setState_r_name_len (c : StateCode) (s : State) : (setState c s).r_name_len = s.r_name_len := rfl
@[simp] theorem setState_r_total (c : StateCode) (s : State) : (setState c s).r_total = s.r_total := rfl
@[simp] theorem setState_r_fcrc (c : StateCode) (s : State) : (setState c s).r_fcrc = s.r_fcrc := rfl
@[simp] theorem setState_r_name (c : StateCode) (s : State) : (setState c s).r_name = s.r_name := rfl
@[simp] theorem setState_r_exp_seq (c : StateCode) (s : State) : (setState c s).r_exp_seq = s.r_exp_seq := rfl
@[simp] theorem setState_r_count (c : StateCode) (s : State) : (setState c s).r_count = s.r_count := rfl
@[simp] theorem setState_r_run_crc (c : StateCode) (s : State) : (setState c s).r_run_crc = s.r_run_crc := rfl
@[simp] theorem setState_r_blk_seq (c : StateCode) (s : State) : (setState c s).r_blk_seq = s.r_blk_seq := rfl
@[simp] theorem setState_r_blk_len (c : StateCode) (s : State) : (setState c s).r_blk_len = s.r_blk_len := rfl
@[simp] theorem setState_r_payload (c : StateCode) (s : State) : (setState c s).r_payload = s.r_payload := rfl
@[simp] theorem setState_r_verdict (c : StateCode) (s : State) : (setState c s).r_verdict = s.r_verdict := rfl
@[simp] theorem setState_crc_unit (c : StateCode) (s : State) : (setState c s).crc_unit = s.crc_unit := rfl
@[simp] theorem setState_sc_magic (c : StateCode) (s : State) : (setState c s).sc_magic = s.sc_magic := rfl
@[simp] theorem setState_sc_win (c : StateCode) (s : State) : (setState c s).sc_win = s.sc_win := rfl
@[simp] theorem setState_sc_armed (c : StateCode) (s : State) : (setState c s).sc_armed = s.sc_armed := rfl
@[simp] theorem setState_sc_matched (c : StateCode) (s : State) : (setState c s).sc_matched = s.sc_matched := rfl
@[simp] theorem setState_cmd_port (c : StateCode) (s : State) : (setState c s).cmd_port = s.cmd_port := rfl
@[simp] theorem setState_outputs (c : StateCode) (s : State) : (setState c s).outputs = s.outputs := rfl
@[simp] theorem setState_responses (c : StateCode) (s : State) : (setState c s).responses = s.responses := rfl

@[simp] theorem armTimer_params (k : TimerKind) (s : State) : (armTimer k s).params = s.params := rfl
@[simp] theorem armTimer_state (k : TimerKind) (s : State) : (armTimer k s).state = s.state := rfl
@[simp] theorem armTimer_role (k : TimerKind) (s : State) : (armTimer k s).role = s.role := rfl
@[simp] theorem armTimer_error (k : TimerKind) (s : State) : (armTimer k s).error = s.error := rfl
@[simp] theorem armTimer_illegal (k : TimerKind) (s : State) : (armTimer k s).illegal = s.illegal := rfl
@[simp] theorem armTimer_timer_kind (k : TimerKind) (s : State) : (armTimer k s).timer_kind = k := rfl
@[simp] theorem armTimer_temp_open (k : TimerKind) (s : State) : (armTimer k s).temp_open = s.temp_open := rfl
@[simp] theorem armTimer_s_block (k : TimerKind) (s : State) : (armTimer k s).s_block = s.s_block := rfl
@[simp] theorem armTimer_s_maxatt (k : TimerKind) (s : State) : (armTimer k s).s_maxatt = s.s_maxatt := rfl
@[simp] theorem armTimer_s_total (k : TimerKind) (s : State) : (armTimer k s).s_total = s.s_total := rfl
@[simp] theorem armTimer_s_fcrc (k : TimerKind) (s : State) : (armTimer k s).s_fcrc = s.s_fcrc := rfl
@[simp] theorem armTimer_s_name (k : TimerKind) (s : State) : (armTimer k s).s_name = s.s_name := rfl
@[simp] theorem armTimer_s_seq (k : TimerKind) (s : State) : (armTimer k s).s_seq = s.s_seq := rfl
@[simp] theorem armTimer_s_att (k : TimerKind) (s : State) : (armTimer k s).s_att = s.s_att := rfl
@[simp] theorem armTimer_s_sent (k : TimerKind) (s : State) : (armTimer k s).s_sent = s.s_sent := rfl
@[simp] theorem armTimer_s_curlen (k : TimerKind) (s : State) : (armTimer k s).s_curlen = s.s_curlen := rfl
@[simp] theorem armTimer_s_frame (k : TimerKind) (s : State) : (armTimer k s).s_frame = s.s_frame := rfl
@[simp] theorem armTimer_s_fin (k : TimerKind) (s : State) : (armTimer k s).s_fin = s.s_fin := rfl
@[simp] theorem armTimer_e_win (k : TimerKind) (s : State) : (armTimer k s).e_win = s.e_win := rfl
@[simp] theorem armTimer_r_buf (k : TimerKind) (s : State) : (armTimer k s).r_buf = s.r_buf := rfl
@[simp] theorem armTimer_r_version (k : TimerKind) (s : State) : (armTimer k s).r_version = s.r_version := rfl
@[simp] theorem armTimer_r_name_len (k : TimerKind) (s : State) : (armTimer k s).r_name_len = s.r_name_len := rfl
@[simp] theorem armTimer_r_total (k : TimerKind) (s : State) : (armTimer k s).r_total = s.r_total := rfl
@[simp] theorem armTimer_r_fcrc (k : TimerKind) (s : State) : (armTimer k s).r_fcrc = s.r_fcrc := rfl
@[simp] theorem armTimer_r_name (k : TimerKind) (s : State) : (armTimer k s).r_name = s.r_name := rfl
@[simp] theorem armTimer_r_exp_seq (k : TimerKind) (s : State) : (armTimer k s).r_exp_seq = s.r_exp_seq := rfl
@[simp] theorem armTimer_r_count (k : TimerKind) (s : State) : (armTimer k s).r_count = s.r_count := rfl
@[simp] theorem armTimer_r_run_crc (k : TimerKind) (s : State) : (armTimer k s).r_run_crc = s.r_run_crc := rfl
@[simp] theorem armTimer_r_blk_seq (k : TimerKind) (s : State) : (armTimer k s).r_blk_seq = s.r_blk_seq := rfl
@[simp] theorem armTimer_r_blk_len (k : TimerKind) (s : State) : (armTimer k s).r_blk_len = s.r_blk_len := rfl
@[simp] theorem armTimer_r_payload (k : TimerKind) (s : State) : (armTimer k s).r_payload = s.r_payload := rfl
@[simp] theorem armTimer_r_verdict (k : TimerKind) (s : State) : (armTimer k s).r_verdict = s.r_verdict := rfl
@[simp] theorem armTimer_crc_unit (k : TimerKind) (s : State) : (armTimer k s).crc_unit = s.crc_unit := rfl
@[simp] theorem armTimer_sc_magic (k : TimerKind) (s : State) : (armTimer k s).sc_magic = s.sc_magic := rfl
@[simp] theorem armTimer_sc_win (k : TimerKind) (s : State) : (armTimer k s).sc_win = s.sc_win := rfl
@[simp] theorem armTimer_sc_armed (k : TimerKind) (s : State) : (armTimer k s).sc_armed = s.sc_armed := rfl
@[simp] theorem armTimer_sc_matched (k : TimerKind) (s : State) : (armTimer k s).sc_matched = s.sc_matched := rfl
@[simp] theorem armTimer_cmd_port (k : TimerKind) (s : State) : (armTimer k s).cmd_port = s.cmd_port := rfl
@[simp] theorem armTimer_outputs (k : TimerKind) (s : State) : (armTimer k s).outputs = s.outputs ++ [.timerArm k] := rfl
@[simp] theorem armTimer_responses (k : TimerKind) (s : State) : (armTimer k s).responses = s.responses := rfl

@[simp] theorem stopTimer_params (s : State) : (stopTimer s).params = s.params := rfl
@[simp] theorem stopTimer_state (s : State) : (stopTimer s).state = s.state := rfl
@[simp] theorem stopTimer_role (s : State) : (stopTimer s).role = s.role := rfl
@[simp] theorem stopTimer_error (s : State) : (stopTimer s).error = s.error := rfl
@[simp] theorem stopTimer_illegal (s : State) : (stopTimer s).illegal = s.illegal := rfl
@[simp] theorem stopTimer_timer_kind (s : State) : (stopTimer s).timer_kind = .none := rfl
@[simp] theorem stopTimer_temp_open (s : State) : (stopTimer s).temp_open = s.temp_open := rfl
@[simp] theorem stopTimer_s_block (s : State) : (stopTimer s).s_block = s.s_block := rfl
@[simp] theorem stopTimer_s_maxatt (s : State) : (stopTimer s).s_maxatt = s.s_maxatt := rfl
@[simp] theorem stopTimer_s_total (s : State) : (stopTimer s).s_total = s.s_total := rfl
@[simp] theorem stopTimer_s_fcrc (s : State) : (stopTimer s).s_fcrc = s.s_fcrc := rfl
@[simp] theorem stopTimer_s_name (s : State) : (stopTimer s).s_name = s.s_name := rfl
@[simp] theorem stopTimer_s_seq (s : State) : (stopTimer s).s_seq = s.s_seq := rfl
@[simp] theorem stopTimer_s_att (s : State) : (stopTimer s).s_att = s.s_att := rfl
@[simp] theorem stopTimer_s_sent (s : State) : (stopTimer s).s_sent = s.s_sent := rfl
@[simp] theorem stopTimer_s_curlen (s : State) : (stopTimer s).s_curlen = s.s_curlen := rfl
@[simp] theorem stopTimer_s_frame (s : State) : (stopTimer s).s_frame = s.s_frame := rfl
@[simp] theorem stopTimer_s_fin (s : State) : (stopTimer s).s_fin = s.s_fin := rfl
@[simp] theorem stopTimer_e_win (s : State) : (stopTimer s).e_win = s.e_win := rfl
@[simp] theorem stopTimer_r_buf (s : State) : (stopTimer s).r_buf = s.r_buf := rfl
@[simp] theorem stopTimer_r_version (s : State) : (stopTimer s).r_version = s.r_version := rfl
@[simp] theorem stopTimer_r_name_len (s : State) : (stopTimer s).r_name_len = s.r_name_len := rfl
@[simp] theorem stopTimer_r_total (s : State) : (stopTimer s).r_total = s.r_total := rfl
@[simp] theorem stopTimer_r_fcrc (s : State) : (stopTimer s).r_fcrc = s.r_fcrc := rfl
@[simp] theorem stopTimer_r_name (s : State) : (stopTimer s).r_name = s.r_name := rfl
@[simp] theorem stopTimer_r_exp_seq (s : State) : (stopTimer s).r_exp_seq = s.r_exp_seq := rfl
@[simp] theorem stopTimer_r_count (s : State) : (stopTimer s).r_count = s.r_count := rfl
@[simp] theorem stopTimer_r_run_crc (s : State) : (stopTimer s).r_run_crc = s.r_run_crc := rfl
@[simp] theorem stopTimer_r_blk_seq (s : State) : (stopTimer s).r_blk_seq = s.r_blk_seq := rfl
@[simp] theorem stopTimer_r_blk_len (s : State) : (stopTimer s).r_blk_len = s.r_blk_len := rfl
@[simp] theorem stopTimer_r_payload (s : State) : (stopTimer s).r_payload = s.r_payload := rfl
@[simp] theorem stopTimer_r_verdict (s : State) : (stopTimer s).r_verdict = s.r_verdict := rfl
@[simp] theorem stopTimer_crc_unit (s : State) : (stopTimer s).crc_unit = s.crc_unit := rfl
@[simp] theorem stopTimer_sc_magic (s : State) : (stopTimer s).sc_magic = s.sc_magic := rfl
@[simp] theorem stopTimer_sc_win (s : State) : (stopTimer s).sc_win = s.sc_win := rfl
@[simp] theorem stopTimer_sc_armed (s : State) : (stopTimer s).sc_armed = s.sc_armed := rfl
@[simp] theorem stopTimer_sc_matched (s : State) : (stopTimer s).sc_matched = s.sc_matched := rfl
@[simp] theorem stopTimer_cmd_port (s : State) : (stopTimer s).cmd_port = s.cmd_port := rfl
@[simp] theorem stopTimer_outputs (s : State) : (stopTimer s).outputs = s.outputs ++ stopOutputs s.timer_kind := rfl
@[simp] theorem stopTimer_responses (s : State) : (stopTimer s).responses = s.responses := rfl

@[simp] theorem openTemp_params (s : State) : (openTemp s).params = s.params := rfl
@[simp] theorem openTemp_state (s : State) : (openTemp s).state = s.state := rfl
@[simp] theorem openTemp_role (s : State) : (openTemp s).role = s.role := rfl
@[simp] theorem openTemp_error (s : State) : (openTemp s).error = s.error := rfl
@[simp] theorem openTemp_illegal (s : State) : (openTemp s).illegal = s.illegal := rfl
@[simp] theorem openTemp_timer_kind (s : State) : (openTemp s).timer_kind = s.timer_kind := rfl
@[simp] theorem openTemp_temp_open (s : State) : (openTemp s).temp_open = true := rfl
@[simp] theorem openTemp_s_block (s : State) : (openTemp s).s_block = s.s_block := rfl
@[simp] theorem openTemp_s_maxatt (s : State) : (openTemp s).s_maxatt = s.s_maxatt := rfl
@[simp] theorem openTemp_s_total (s : State) : (openTemp s).s_total = s.s_total := rfl
@[simp] theorem openTemp_s_fcrc (s : State) : (openTemp s).s_fcrc = s.s_fcrc := rfl
@[simp] theorem openTemp_s_name (s : State) : (openTemp s).s_name = s.s_name := rfl
@[simp] theorem openTemp_s_seq (s : State) : (openTemp s).s_seq = s.s_seq := rfl
@[simp] theorem openTemp_s_att (s : State) : (openTemp s).s_att = s.s_att := rfl
@[simp] theorem openTemp_s_sent (s : State) : (openTemp s).s_sent = s.s_sent := rfl
@[simp] theorem openTemp_s_curlen (s : State) : (openTemp s).s_curlen = s.s_curlen := rfl
@[simp] theorem openTemp_s_frame (s : State) : (openTemp s).s_frame = s.s_frame := rfl
@[simp] theorem openTemp_s_fin (s : State) : (openTemp s).s_fin = s.s_fin := rfl
@[simp] theorem openTemp_e_win (s : State) : (openTemp s).e_win = s.e_win := rfl
@[simp] theorem openTemp_r_buf (s : State) : (openTemp s).r_buf = s.r_buf := rfl
@[simp] theorem openTemp_r_version (s : State) : (openTemp s).r_version = s.r_version := rfl
@[simp] theorem openTemp_r_name_len (s : State) : (openTemp s).r_name_len = s.r_name_len := rfl
@[simp] theorem openTemp_r_total (s : State) : (openTemp s).r_total = s.r_total := rfl
@[simp] theorem openTemp_r_fcrc (s : State) : (openTemp s).r_fcrc = s.r_fcrc := rfl
@[simp] theorem openTemp_r_name (s : State) : (openTemp s).r_name = s.r_name := rfl
@[simp] theorem openTemp_r_exp_seq (s : State) : (openTemp s).r_exp_seq = s.r_exp_seq := rfl
@[simp] theorem openTemp_r_count (s : State) : (openTemp s).r_count = s.r_count := rfl
@[simp] theorem openTemp_r_run_crc (s : State) : (openTemp s).r_run_crc = s.r_run_crc := rfl
@[simp] theorem openTemp_r_blk_seq (s : State) : (openTemp s).r_blk_seq = s.r_blk_seq := rfl
@[simp] theorem openTemp_r_blk_len (s : State) : (openTemp s).r_blk_len = s.r_blk_len := rfl
@[simp] theorem openTemp_r_payload (s : State) : (openTemp s).r_payload = s.r_payload := rfl
@[simp] theorem openTemp_r_verdict (s : State) : (openTemp s).r_verdict = s.r_verdict := rfl
@[simp] theorem openTemp_crc_unit (s : State) : (openTemp s).crc_unit = s.crc_unit := rfl
@[simp] theorem openTemp_sc_magic (s : State) : (openTemp s).sc_magic = s.sc_magic := rfl
@[simp] theorem openTemp_sc_win (s : State) : (openTemp s).sc_win = s.sc_win := rfl
@[simp] theorem openTemp_sc_armed (s : State) : (openTemp s).sc_armed = s.sc_armed := rfl
@[simp] theorem openTemp_sc_matched (s : State) : (openTemp s).sc_matched = s.sc_matched := rfl
@[simp] theorem openTemp_cmd_port (s : State) : (openTemp s).cmd_port = s.cmd_port := rfl
@[simp] theorem openTemp_outputs (s : State) : (openTemp s).outputs = s.outputs ++ [.openTemp s.r_name] := rfl
@[simp] theorem openTemp_responses (s : State) : (openTemp s).responses = s.responses := rfl

@[simp] theorem raiseFatal_params (k : ErrorCode) (s : State) : (raiseFatal k s).params = s.params := rfl
@[simp] theorem raiseFatal_state (k : ErrorCode) (s : State) : (raiseFatal k s).state = failedState s.role := rfl
@[simp] theorem raiseFatal_role (k : ErrorCode) (s : State) : (raiseFatal k s).role = s.role := rfl
@[simp] theorem raiseFatal_error (k : ErrorCode) (s : State) : (raiseFatal k s).error = k := rfl
@[simp] theorem raiseFatal_illegal (k : ErrorCode) (s : State) : (raiseFatal k s).illegal = s.illegal := rfl
@[simp] theorem raiseFatal_timer_kind (k : ErrorCode) (s : State) : (raiseFatal k s).timer_kind = .none := rfl
@[simp] theorem raiseFatal_temp_open (k : ErrorCode) (s : State) : (raiseFatal k s).temp_open = s.temp_open := rfl
@[simp] theorem raiseFatal_s_block (k : ErrorCode) (s : State) : (raiseFatal k s).s_block = s.s_block := rfl
@[simp] theorem raiseFatal_s_maxatt (k : ErrorCode) (s : State) : (raiseFatal k s).s_maxatt = s.s_maxatt := rfl
@[simp] theorem raiseFatal_s_total (k : ErrorCode) (s : State) : (raiseFatal k s).s_total = s.s_total := rfl
@[simp] theorem raiseFatal_s_fcrc (k : ErrorCode) (s : State) : (raiseFatal k s).s_fcrc = s.s_fcrc := rfl
@[simp] theorem raiseFatal_s_name (k : ErrorCode) (s : State) : (raiseFatal k s).s_name = s.s_name := rfl
@[simp] theorem raiseFatal_s_seq (k : ErrorCode) (s : State) : (raiseFatal k s).s_seq = s.s_seq := rfl
@[simp] theorem raiseFatal_s_att (k : ErrorCode) (s : State) : (raiseFatal k s).s_att = s.s_att := rfl
@[simp] theorem raiseFatal_s_sent (k : ErrorCode) (s : State) : (raiseFatal k s).s_sent = s.s_sent := rfl
@[simp] theorem raiseFatal_s_curlen (k : ErrorCode) (s : State) : (raiseFatal k s).s_curlen = s.s_curlen := rfl
@[simp] theorem raiseFatal_s_frame (k : ErrorCode) (s : State) : (raiseFatal k s).s_frame = s.s_frame := rfl
@[simp] theorem raiseFatal_s_fin (k : ErrorCode) (s : State) : (raiseFatal k s).s_fin = s.s_fin := rfl
@[simp] theorem raiseFatal_e_win (k : ErrorCode) (s : State) : (raiseFatal k s).e_win = s.e_win := rfl
@[simp] theorem raiseFatal_r_buf (k : ErrorCode) (s : State) : (raiseFatal k s).r_buf = s.r_buf := rfl
@[simp] theorem raiseFatal_r_version (k : ErrorCode) (s : State) : (raiseFatal k s).r_version = s.r_version := rfl
@[simp] theorem raiseFatal_r_name_len (k : ErrorCode) (s : State) : (raiseFatal k s).r_name_len = s.r_name_len := rfl
@[simp] theorem raiseFatal_r_total (k : ErrorCode) (s : State) : (raiseFatal k s).r_total = s.r_total := rfl
@[simp] theorem raiseFatal_r_fcrc (k : ErrorCode) (s : State) : (raiseFatal k s).r_fcrc = s.r_fcrc := rfl
@[simp] theorem raiseFatal_r_name (k : ErrorCode) (s : State) : (raiseFatal k s).r_name = s.r_name := rfl
@[simp] theorem raiseFatal_r_exp_seq (k : ErrorCode) (s : State) : (raiseFatal k s).r_exp_seq = s.r_exp_seq := rfl
@[simp] theorem raiseFatal_r_count (k : ErrorCode) (s : State) : (raiseFatal k s).r_count = s.r_count := rfl
@[simp] theorem raiseFatal_r_run_crc (k : ErrorCode) (s : State) : (raiseFatal k s).r_run_crc = s.r_run_crc := rfl
@[simp] theorem raiseFatal_r_blk_seq (k : ErrorCode) (s : State) : (raiseFatal k s).r_blk_seq = s.r_blk_seq := rfl
@[simp] theorem raiseFatal_r_blk_len (k : ErrorCode) (s : State) : (raiseFatal k s).r_blk_len = s.r_blk_len := rfl
@[simp] theorem raiseFatal_r_payload (k : ErrorCode) (s : State) : (raiseFatal k s).r_payload = s.r_payload := rfl
@[simp] theorem raiseFatal_r_verdict (k : ErrorCode) (s : State) : (raiseFatal k s).r_verdict = s.r_verdict := rfl
@[simp] theorem raiseFatal_crc_unit (k : ErrorCode) (s : State) : (raiseFatal k s).crc_unit = s.crc_unit := rfl
@[simp] theorem raiseFatal_sc_magic (k : ErrorCode) (s : State) : (raiseFatal k s).sc_magic = s.sc_magic := rfl
@[simp] theorem raiseFatal_sc_win (k : ErrorCode) (s : State) : (raiseFatal k s).sc_win = s.sc_win := rfl
@[simp] theorem raiseFatal_sc_armed (k : ErrorCode) (s : State) : (raiseFatal k s).sc_armed = s.sc_armed := rfl
@[simp] theorem raiseFatal_sc_matched (k : ErrorCode) (s : State) : (raiseFatal k s).sc_matched = s.sc_matched := rfl
@[simp] theorem raiseFatal_cmd_port (k : ErrorCode) (s : State) : (raiseFatal k s).cmd_port = s.cmd_port := rfl
@[simp] theorem raiseFatal_outputs (k : ErrorCode) (s : State) : (raiseFatal k s).outputs = s.outputs ++ stopOutputs s.timer_kind ++ [.endTransfer k] := rfl
@[simp] theorem raiseFatal_responses (k : ErrorCode) (s : State) : (raiseFatal k s).responses = s.responses := rfl

end Sys2Proof.Machine
end

