-- ==== Sys2Proof/Laws/Ops.lean ====
section
/-!
SUPPORT. For each shared operation, one lemma that says once everything it can do, as a record over the state it is
applied to; and the small lemmas of the packing functions, the scanner and the readings of an output list.
-/

namespace Sys2Proof.Machine

open Sys2Proof

theorem stopOutputs_eq (k : TimerKind) : stopOutputs k = if k = .none then [] else [.timerStop] := by
  cases k <;> rfl

theorem failedState_eq (r : Role) : failedState r = if r = .sender then .sFailed else .rFailed := by
  cases r <;> rfl

/-- A fatal entry, whole (R403). -/
theorem raiseFatal_eq (k : ErrorCode) (s : State) :
    raiseFatal k s =
      { s with
        timer_kind := .none, error := k, state := failedState s.role,
        outputs := s.outputs ++ stopOutputs s.timer_kind ++ [.endTransfer k] } := rfl

/-- The block is asked for, or the final status awaited (R246). -/
theorem nextBlock_eq (s : State) :
    nextBlock s =
      if s.s_sent = s.s_total then
        { s with s_fin := [], timer_kind := .final, outputs := s.outputs ++ [.timerArm .final], state := .sAwaitFinal }
      else
        { s with s_curlen := nextLen s, outputs := s.outputs ++ [.dataReq (nextLen s)], state := .sNeedData } := by
  unfold nextBlock
  split <;> rfl

/-- A failed attempt: abort, or resend the identical frame (R251). -/
theorem attemptFailed_eq (s : State) :
    attemptFailed s =
      if s.s_maxatt.toNat ≤ s.s_att.toNat then raiseFatal .retryExhausted s
      else
        { s with
          s_att := s.s_att + 1, timer_kind := .blockResp,
          outputs := s.outputs ++ [.tx s.s_frame, .timerArm .blockResp] } := by
  unfold attemptFailed
  split
  · rfl
  · simp [armTimer, emit]

/-- An exact-count read begins (R317). -/
theorem startRead_eq (c : StateCode) (s : State) :
    startRead c s =
      { s with
        r_buf := [], state := c,
        timer_kind := if s.params.rxReadDeadline then .rxRead else .none,
        outputs := s.outputs ++
          (if s.params.rxReadDeadline then [.timerArm .rxRead] else stopOutputs s.timer_kind) } := by
  unfold startRead
  cases h : s.params.rxReadDeadline <;> simp [h, armTimer, stopTimer, setState]

/-- The temporary file is opened (R298). -/
theorem openTemp_eq (s : State) :
    openTemp s = { s with temp_open := true, outputs := s.outputs ++ [.openTemp s.r_name] } := rfl

/-- The handshake is complete (R296). -/
theorem hsComplete_eq (s : State) :
    hsComplete s =
      if s.r_version = s.params.protoVersion then
        { s with
          temp_open := if s.params.openTempAt = .handshakeParsed then true else s.temp_open
          e_win := []
          timer_kind := .sessSync
          state := .rSyncSess
          outputs := s.outputs ++
            ((if s.params.openTempAt = .handshakeParsed then [.openTemp s.r_name] else []) ++
              [.tx [s.params.ackByte], .timerArm .sessSync]) }
      else raiseFatal .protocolMismatch s := by
  unfold hsComplete
  by_cases hv : s.r_version = s.params.protoVersion
  · rw [if_neg (not_not_intro hv), if_pos hv]
    cases ho : s.params.openTempAt <;> simp [setState, armTimer, emit, openTemp]
  · rw [if_pos hv, if_neg hv]

/-- The final check (R307). -/
theorem finalCheck_eq (s : State) :
    finalCheck s =
      if s.r_run_crc = s.r_fcrc then
        { s with
          timer_kind := .none
          state := .rCommitted
          outputs := s.outputs ++ (stopOutputs s.timer_kind ++
            [.commit, .tx (tokenBytes s.params.okToken), .endTransfer .none]) }
      else
        { s with
          timer_kind := .none
          state := .rKeptPartial
          error := .integrityFile
          outputs := s.outputs ++ (stopOutputs s.timer_kind ++
            [.tx (tokenBytes s.params.noToken), .keepPartial, .endTransfer .integrityFile]) } := by
  unfold finalCheck
  by_cases h : s.r_run_crc = s.r_fcrc
  · rw [if_pos h, if_pos (show (stopTimer s).r_run_crc = (stopTimer s).r_fcrc from h)]
    simp [setState, emit, stopTimer]
  · rw [if_neg h, if_neg (show ¬ (stopTimer s).r_run_crc = (stopTimer s).r_fcrc from h)]
    simp [setState, emit, stopTimer]

/-- The block loop ends or goes on (R301). -/
theorem blockLoop_eq (s : State) :
    blockLoop s = if s.r_total.toNat ≤ s.r_count then finalCheck s else startRead .rBlkHdr s := rfl

/-- An accepted block (R305). -/
theorem acceptBlock_eq (s : State) :
    acceptBlock s =
      blockLoop
        { s with
          r_count := s.r_count + s.r_blk_len.toNat, r_run_crc := crc s.r_payload s.r_run_crc,
          r_exp_seq := s.r_exp_seq + 1, r_verdict := .accepted,
          outputs := s.outputs ++ [.writeTemp s.r_payload, .tx [s.params.ackByte]] } := by
  simp [acceptBlock, emit]

/-- A rejected block (R306). -/
theorem rejectBlock_eq (s : State) :
    rejectBlock s = blockLoop { s with outputs := s.outputs ++ [.tx [s.params.nakByte]] } := rfl

/-- EV_RX runs the arm of its state (R351). -/
theorem execEvRx_of_arm {s : State} {arm : Byte → State → State} (b : Byte) (h : rxArm s.state = some arm) :
    execEvRx b s = accepted (arm b s) := by
  unfold execEvRx
  rw [h]

/-- EV_TIMEOUT runs the arm of its state, whatever deadline is armed (R351, R462). -/
theorem execEvTimeout_of_arm {s : State} {arm : State → State} (h : timeoutArm s.state = some arm)
    (hk : s.timer_kind ≠ .none) : execEvTimeout s = accepted (arm s) := by
  unfold execEvTimeout
  split
  · exact absurd ‹_› hk
  · rw [h]

/-- A state has an EV_RX arm exactly where RX_READY is 1 (R358). -/
theorem rxArm_isSome (c : StateCode) : (rxArm c).isSome = rxReady c := by
  cases c <;> rfl

/-- A state has an EV_TIMEOUT arm exactly where RX_READY is 1 (R359). -/
theorem timeoutArm_isSome (c : StateCode) : (timeoutArm c).isSome = rxReady c := by
  cases c <;> rfl

@[simp] theorem magicBytes_length (m : Bytes4) : (magicBytes m).length = 4 := rfl
@[simp] theorem tokenBytes_length (t : Bytes2) : (tokenBytes t).length = 2 := rfl
@[simp] theorem le16_length (v : Half) : (le16 v).length = 2 := rfl
@[simp] theorem le32_length (v : Word) : (le32 v).length = 4 := rfl
@[simp] theorem le64_length (v : Dword) : (le64 v).length = 8 := rfl

theorem lastN_length (n : Nat) (s : List Byte) : (lastN n s).length = min n s.length := by
  simp [lastN]
  omega

theorem len16_toNat {s : List Byte} (h : s.length ≤ 65535) : (len16 s).toNat = s.length := by
  simp [len16]
  omega

theorem byteAt_append_left {s t : List Byte} {i : Nat} (h : i < s.length) : byteAt (s ++ t) i = byteAt s i := by
  simp [byteAt, List.getElem?_append, h]

theorem byteAt_append_right {s t : List Byte} {i : Nat} (h : s.length ≤ i) :
    byteAt (s ++ t) i = byteAt t (i - s.length) := by
  simp [byteAt, List.getElem?_append, Nat.not_lt.mpr h]

/-- Two adjacent fields of a word make up the field they cover. -/
theorem extractLsb'_append_extractLsb' {w : Nat} (v : BitVec w) (a m n : Nat) :
    v.extractLsb' (a + n) m ++ v.extractLsb' a n = v.extractLsb' a (m + n) := by
  ext i hi
  simp only [BitVec.getElem_append, BitVec.getElem_extractLsb']
  split
  · rfl
  · congr 1
    omega

/-- `rd_le16` reads back what `le16` wrote (R19). -/
theorem rdLe16_le16 (v : Half) (t : List Byte) : rdLe16 (le16 v ++ t) 0 = v := by
  show v.extractLsb' (0 + 8) 8 ++ v.extractLsb' 0 8 = v
  rw [extractLsb'_append_extractLsb']
  simp

/-- `rd_le32` reads back what `le32` wrote (R19). -/
theorem rdLe32_le32 (v : Word) (t : List Byte) : rdLe32 (le32 v ++ t) 0 = v := by
  show (v.extractLsb' (16 + 8) 8 ++ v.extractLsb' 16 8) ++ (v.extractLsb' (0 + 8) 8 ++ v.extractLsb' 0 8) = v
  rw [extractLsb'_append_extractLsb', extractLsb'_append_extractLsb',
    show (16 : Nat) = 0 + 16 from rfl, extractLsb'_append_extractLsb']
  simp

/-- `rd_le64` reads back what `le64` wrote (R19). -/
theorem rdLe64_le64 (v : Dword) (t : List Byte) : rdLe64 (le64 v ++ t) 0 = v := by
  show ((v.extractLsb' (48 + 8) 8 ++ v.extractLsb' 48 8) ++ (v.extractLsb' (32 + 8) 8 ++ v.extractLsb' 32 8)) ++
    ((v.extractLsb' (16 + 8) 8 ++ v.extractLsb' 16 8) ++ (v.extractLsb' (0 + 8) 8 ++ v.extractLsb' 0 8)) = v
  rw [extractLsb'_append_extractLsb', extractLsb'_append_extractLsb', extractLsb'_append_extractLsb',
    extractLsb'_append_extractLsb', show (48 : Nat) = 32 + 16 from rfl, show (16 : Nat) = 0 + 16 from rfl,
    extractLsb'_append_extractLsb', extractLsb'_append_extractLsb', show (32 : Nat) = 0 + 32 from rfl,
    extractLsb'_append_extractLsb']
  simp

/-- The low bits of a concatenation are the second part's. -/
theorem extractLsb'_append_low {m n : Nat} (a : BitVec m) (b : BitVec n) (k j : Nat) (h : k + j ≤ n) :
    (a ++ b).extractLsb' k j = b.extractLsb' k j := by
  ext i hi
  simp only [BitVec.getElem_extractLsb', BitVec.getLsbD_append]
  rw [if_pos (by omega)]

/-- The bits of a concatenation above the second part are the first part's. -/
theorem extractLsb'_append_high {m n : Nat} (a : BitVec m) (b : BitVec n) (k j : Nat) :
    (a ++ b).extractLsb' (n + k) j = a.extractLsb' k j := by
  ext i hi
  simp only [BitVec.getElem_extractLsb', BitVec.getLsbD_append]
  rw [if_neg (by omega)]
  congr 1
  omega

/-- `le16` writes back the bytes that `rd_le16` read (R19). -/
theorem le16_rdLe16 (s : List Byte) (o : Nat) : le16 (rdLe16 s o) = [byteAt s o, byteAt s (o + 1)] := by
  have hl := extractLsb'_append_low (byteAt s (o + 1)) (byteAt s o) 0 8 (by omega)
  have hh := extractLsb'_append_high (byteAt s (o + 1)) (byteAt s o) 0 8
  show [(byteAt s (o + 1) ++ byteAt s o).extractLsb' 0 8, (byteAt s (o + 1) ++ byteAt s o).extractLsb' (8 + 0) 8] = _
  rw [hl, hh]
  simp

/-- `le32` writes the low half, then the high half. -/
theorem le32_append (a b : Half) : le32 (a ++ b) = le16 b ++ le16 a := by
  show [(a ++ b).extractLsb' 0 8, (a ++ b).extractLsb' 8 8, (a ++ b).extractLsb' (16 + 0) 8,
    (a ++ b).extractLsb' (16 + 8) 8] = _
  rw [extractLsb'_append_low _ _ _ _ (by omega), extractLsb'_append_low _ _ _ _ (by omega),
    extractLsb'_append_high, extractLsb'_append_high]
  rfl

/-- `le64` writes the low half, then the high half. -/
theorem le64_append (a b : Word) : le64 (a ++ b) = le32 b ++ le32 a := by
  show [(a ++ b).extractLsb' 0 8, (a ++ b).extractLsb' 8 8, (a ++ b).extractLsb' 16 8, (a ++ b).extractLsb' 24 8,
    (a ++ b).extractLsb' (32 + 0) 8, (a ++ b).extractLsb' (32 + 8) 8, (a ++ b).extractLsb' (32 + 16) 8,
    (a ++ b).extractLsb' (32 + 24) 8] = _
  rw [extractLsb'_append_low _ _ _ _ (by omega), extractLsb'_append_low _ _ _ _ (by omega),
    extractLsb'_append_low _ _ _ _ (by omega), extractLsb'_append_low _ _ _ _ (by omega),
    extractLsb'_append_high, extractLsb'_append_high, extractLsb'_append_high, extractLsb'_append_high]
  rfl

/-- `le32` writes back the bytes that `rd_le32` read (R19). -/
theorem le32_rdLe32 (s : List Byte) (o : Nat) :
    le32 (rdLe32 s o) = [byteAt s o, byteAt s (o + 1), byteAt s (o + 2), byteAt s (o + 3)] := by
  rw [rdLe32, le32_append, le16_rdLe16, le16_rdLe16]
  rfl

/-- `le64` writes back the bytes that `rd_le64` read (R19). -/
theorem le64_rdLe64 (s : List Byte) (o : Nat) :
    le64 (rdLe64 s o) =
      [byteAt s o, byteAt s (o + 1), byteAt s (o + 2), byteAt s (o + 3), byteAt s (o + 4), byteAt s (o + 5),
        byteAt s (o + 6), byteAt s (o + 7)] := by
  rw [rdLe64, le64_append, le32_rdLe32, le32_rdLe32]
  rfl

/-- `rd_le16` is the sum of its bytes (R19). -/
theorem rdLe16_toNat (s : List Byte) (o : Nat) :
    (rdLe16 s o).toNat = (byteAt s o).toNat + 256 * (byteAt s (o + 1)).toNat := by
  simp only [rdLe16, BitVec.toNat_append]
  rw [Nat.shiftLeft_eq, Nat.mul_comm, ← Nat.two_pow_add_eq_or_of_lt (byteAt s o).isLt]
  omega

theorem rdLe16_append_right {s t : List Byte} {o : Nat} (h : s.length ≤ o) :
    rdLe16 (s ++ t) o = rdLe16 t (o - s.length) := by
  unfold rdLe16
  rw [byteAt_append_right h, byteAt_append_right (by omega)]
  congr 2
  omega

theorem rdLe32_append_right {s t : List Byte} {o : Nat} (h : s.length ≤ o) :
    rdLe32 (s ++ t) o = rdLe32 t (o - s.length) := by
  unfold rdLe32
  rw [rdLe16_append_right h, rdLe16_append_right (by omega)]
  congr 2
  omega

theorem rdLe64_append_right {s t : List Byte} {o : Nat} (h : s.length ≤ o) :
    rdLe64 (s ++ t) o = rdLe64 t (o - s.length) := by
  unfold rdLe64
  rw [rdLe32_append_right h, rdLe32_append_right (by omega)]
  congr 2
  omega

/-- The scanner's flag says that its window equals the magic (R220). -/
theorem scanStep_snd (win : List Byte) (magic : Bytes4) (b : Byte) :
    (scanStep win magic b).2 = true ↔ lastN 4 (win ++ [b]) = magicBytes magic := by
  simp only [scanStep, Bool.and_eq_true, beq_iff_eq, and_iff_right_iff_imp]
  intro h
  rw [h, magicBytes_length]

/-- The scanner's window is the last 4 bytes (R220). -/
@[simp] theorem scanStep_fst (win : List Byte) (magic : Bytes4) (b : Byte) :
    (scanStep win magic b).1 = lastN 4 (win ++ [b]) := rfl

/-- A run of received bytes splits anywhere. -/
theorem receive_append {xs ys : List Byte} {s t : State} (h : receive xs s = .next t) :
    receive (xs ++ ys) s = receive ys t := by
  induction xs generalizing s with
  | nil => cases h; rfl
  | cons b xs ih =>
    simp only [List.cons_append, receive] at h ⊢
    split at h
    · exact ih h
    · cases h
    · cases h

/-- More outputs act on the temporary file's content in order. -/
theorem tempContent_append (xs ys : List Output) : tempContent (xs ++ ys) = ys.foldl tempStep (tempContent xs) := by
  simp [tempContent]

/-- More outputs act on the current block's transmissions in order. -/
theorem blockFrames_append (xs ys : List Output) : blockFrames (xs ++ ys) = ys.foldl frameStep (blockFrames xs) := by
  simp [blockFrames]

/-- Stopping the deadline leaves the temporary file alone. -/
@[simp] theorem foldl_tempStep_stopOutputs (content : List Byte) (k : TimerKind) :
    (stopOutputs k).foldl tempStep content = content := by
  cases k <;> rfl

/-- Stopping the deadline transmits nothing. -/
@[simp] theorem foldl_frameStep_stopOutputs (frames : List (List Byte)) (k : TimerKind) :
    (stopOutputs k).foldl frameStep frames = frames := by
  cases k <;> rfl

/-- The attempt counter is 0 outside S_AWAIT_RESP (10_state.md R46), but in S_FAILED, where a fatal entry leaves it as it
was at the fault (60_exceptions.md R403; log 14). -/
theorem attempts_zero {s : State} (h : EngineInv s) (hr : s.state ≠ .sAwaitResp) (hf : s.state ≠ .sFailed) :
    s.s_att = 0 := by
  by_cases hrole : s.role = .sender
  · have hs : stateRole s.state = .sender := h.control.role ▸ hrole
    have hk := h.control.notTransient
    have he := h.sender.early
    have hn := h.sender.noAttempt
    revert hs hk he hn hr hf
    cases s.state <;> simp +contextual [stateRole, stateKind, senderEarly]
  · obtain ⟨-, -, -, -, -, -, hatt, -⟩ := h.sender.otherRole hrole
    exact hatt

end Sys2Proof.Machine
end

