-- ==== Sys2Proof/Laws/PerInstr.lean ====
section
/-!
SUPPORT. A law of every command, one lemma per constructor: an encoded well-formed command is exactly as long as its
format and its own length field say (30_encoding.md R130, R134), which is what the decoder checks.
-/

namespace Sys2Proof.Laws

open Sys2Proof Sys2Proof.Machine

/-- An encoded well-formed command has its format's length (R130). -/
def EncodeLength.Statement (i : Instr) : Prop :=
  i.WellFormed → (encode i).length = formatLength i.opcode.format (encode i)

/-- The length field of a byte string at any place is its length (R130). -/
theorem rdLe16_lengthPrefixed (pre s : List Byte) (o : Nat) (hp : pre.length = o) (h : s.length ≤ 65535) :
    (rdLe16 (pre ++ lengthPrefixed s) o).toNat = s.length := by
  subst hp
  rw [lengthPrefixed, rdLe16_append_right (Nat.le_refl _), Nat.sub_self, rdLe16_le16, len16_toNat h]

theorem EncodeLength.crcInit (seed : Word) : EncodeLength.Statement (.crcInit seed) := fun _ => rfl

theorem EncodeLength.crcFeed (data : List Byte) : EncodeLength.Statement (.crcFeed data) := by
  intro h
  have hw : data.length ≤ 65535 := h
  have hn := rdLe16_lengthPrefixed [(Opcode.crcFeed).byte] data 1 rfl hw
  have hl : (encode (.crcFeed data)).length = 3 + data.length := by
    simp [encode, Instr.opcode, Instr.operandBytes, lengthPrefixed]
    omega
  rw [hl, ← hn]
  rfl

theorem EncodeLength.crcRead : EncodeLength.Statement .crcRead := fun _ => rfl

theorem EncodeLength.encHs (total : Dword) (crc : Word) (name : List Byte) : EncodeLength.Statement (.encHs total crc name) := by
  intro h
  have hw : name.length ≤ 65535 := h
  have hn := rdLe16_lengthPrefixed (Opcode.encHs.byte :: (le64 total ++ le32 crc)) name 13 rfl hw
  have hl : (encode (.encHs total crc name)).length = 15 + name.length := by
    simp [encode, Instr.opcode, Instr.operandBytes, lengthPrefixed]
    omega
  rw [hl, ← hn]
  rfl

theorem EncodeLength.decHs (bytes : List Byte) : EncodeLength.Statement (.decHs bytes) := by
  intro h
  have hw : bytes.length ≤ 65535 := h
  have hn := rdLe16_lengthPrefixed [(Opcode.decHs).byte] bytes 1 rfl hw
  have hl : (encode (.decHs bytes)).length = 3 + bytes.length := by
    simp [encode, Instr.opcode, Instr.operandBytes, lengthPrefixed]
    omega
  rw [hl, ← hn]
  rfl

theorem EncodeLength.encSess (total : Dword) (crc : Word) : EncodeLength.Statement (.encSess total crc) := fun _ => rfl

theorem EncodeLength.decSess (bytes : List Byte) : EncodeLength.Statement (.decSess bytes) := by
  intro h
  have hw : bytes.length ≤ 65535 := h
  have hn := rdLe16_lengthPrefixed [(Opcode.decSess).byte] bytes 1 rfl hw
  have hl : (encode (.decSess bytes)).length = 3 + bytes.length := by
    simp [encode, Instr.opcode, Instr.operandBytes, lengthPrefixed]
    omega
  rw [hl, ← hn]
  rfl

theorem EncodeLength.encBlk (seq : Half) (crc : Word) (payload : List Byte) : EncodeLength.Statement (.encBlk seq crc payload) := by
  intro h
  have hw : payload.length ≤ 65535 := h
  have hn := rdLe16_lengthPrefixed (Opcode.encBlk.byte :: (le16 seq ++ le32 crc)) payload 7 rfl hw
  have hl : (encode (.encBlk seq crc payload)).length = 9 + payload.length := by
    simp [encode, Instr.opcode, Instr.operandBytes, lengthPrefixed]
    omega
  rw [hl, ← hn]
  rfl

theorem EncodeLength.decBlk (bytes : List Byte) : EncodeLength.Statement (.decBlk bytes) := by
  intro h
  have hw : bytes.length ≤ 65535 := h
  have hn := rdLe16_lengthPrefixed [(Opcode.decBlk).byte] bytes 1 rfl hw
  have hl : (encode (.decBlk bytes)).length = 3 + bytes.length := by
    simp [encode, Instr.opcode, Instr.operandBytes, lengthPrefixed]
    omega
  rw [hl, ← hn]
  rfl

theorem EncodeLength.tokClass (b : Byte) : EncodeLength.Statement (.tokClass b) := fun _ => rfl

theorem EncodeLength.finClass (b0 b1 : Byte) : EncodeLength.Statement (.finClass b0 b1) := fun _ => rfl

theorem EncodeLength.syncArm (magic : Bytes4) : EncodeLength.Statement (.syncArm magic) := fun _ => rfl

theorem EncodeLength.syncFeed (b : Byte) : EncodeLength.Statement (.syncFeed b) := fun _ => rfl

theorem EncodeLength.sStart (blockSize maxAttempts : Half) : EncodeLength.Statement (.sStart blockSize maxAttempts) := fun _ => rfl

theorem EncodeLength.rStart : EncodeLength.Statement .rStart := fun _ => rfl

theorem EncodeLength.modeDone (ok : Byte) : EncodeLength.Statement (.modeDone ok) := fun _ => rfl

theorem EncodeLength.sFileData (data : List Byte) : EncodeLength.Statement (.sFileData data) := by
  intro h
  have hw : data.length ≤ 65535 := h
  have hn := rdLe16_lengthPrefixed [(Opcode.sFileData).byte] data 1 rfl hw
  have hl : (encode (.sFileData data)).length = 3 + data.length := by
    simp [encode, Instr.opcode, Instr.operandBytes, lengthPrefixed]
    omega
  rw [hl, ← hn]
  rfl

theorem EncodeLength.sFileEnd (name : List Byte) : EncodeLength.Statement (.sFileEnd name) := by
  intro h
  have hw : name.length ≤ 65535 := h
  have hn := rdLe16_lengthPrefixed [(Opcode.sFileEnd).byte] name 1 rfl hw
  have hl : (encode (.sFileEnd name)).length = 3 + name.length := by
    simp [encode, Instr.opcode, Instr.operandBytes, lengthPrefixed]
    omega
  rw [hl, ← hn]
  rfl

theorem EncodeLength.sBlockData (data : List Byte) : EncodeLength.Statement (.sBlockData data) := by
  intro h
  have hw : data.length ≤ 65535 := h
  have hn := rdLe16_lengthPrefixed [(Opcode.sBlockData).byte] data 1 rfl hw
  have hl : (encode (.sBlockData data)).length = 3 + data.length := by
    simp [encode, Instr.opcode, Instr.operandBytes, lengthPrefixed]
    omega
  rw [hl, ← hn]
  rfl

theorem EncodeLength.evRx (b : Byte) : EncodeLength.Statement (.evRx b) := fun _ => rfl

theorem EncodeLength.evTimeout : EncodeLength.Statement .evTimeout := fun _ => rfl

theorem EncodeLength.evIoError : EncodeLength.Statement .evIoError := fun _ => rfl

theorem EncodeLength.evAbort : EncodeLength.Statement .evAbort := fun _ => rfl

theorem EncodeLength.regRead (addr : Byte) : EncodeLength.Statement (.regRead addr) := fun _ => rfl

theorem EncodeLength.reset : EncodeLength.Statement .reset := fun _ => rfl

end Sys2Proof.Laws
end

