-- ==== Sys2Proof/Tests/Slice0.lean ====
section
/-!
SUPPORT. The author's tests: WellFormed smoke tests, every command's bytes written out from the encoding tables of
30_encoding.md, one or two steps of every command with the values of 95_test_vectors.md, and for every statement with
hypotheses a named witness that meets them.
-/

namespace Sys2Proof.Tests

open Sys2Proof Sys2Proof.Machine

/-- A small state: reset but for the state register, the role and the armed deadline. -/
def at' (c : StateCode) (k : TimerKind) : State :=
  { State.reset with state := c, role := stateRole c, timer_kind := k }

/-- The state, the response bytes and the outputs that one command leaves, from empty logs. -/
def shown (r : Result) : Option (StateCode × List Byte × List Output) :=
  match r with
  | .next t => some (t.state, (t.responses.map responseBytes).flatten, t.outputs)
  | .fault _ | .refused _ => none

/-- The next state, if there is one. -/
def nextOf (r : Result) : Option State :=
  match r with
  | .next t => some t
  | .fault _ | .refused _ => none

/-- "a.txt" -/
def name : List Byte := [0x61, 0x2E, 0x74, 0x78, 0x74]

/-- The bytes of the handshake frame of V20, without its magic and name. -/
def hsFixed : List Byte := [1, 5, 0, 3, 0, 0, 0, 0, 0, 0, 0, 0xC2, 0x41, 0x24, 0x35]

/-- Block 0 of program P2: "ab". -/
def block0 : List Byte := [0, 0, 2, 0, 0x61, 0x62, 0x6D, 0x48, 0x83, 0x9E]

/-- The sender after S_BLOCK_DATA "ab" of program P2. -/
def blockWait : State :=
  { at' .sAwaitResp .blockResp with
    s_block := 2, s_maxatt := 3, s_total := 3, s_fcrc := 0x352441C2, s_name := name, s_att := 1, s_curlen := 2,
    s_frame := block0, outputs := [.dataReq 2, .tx block0, .timerArm .blockResp] }

/-- The sender at V68: block 0 is asked for. -/
def needData : State :=
  { at' .sNeedData .none with
    s_block := 2, s_maxatt := 3, s_total := 3, s_fcrc := 0x352441C2, s_name := name, s_curlen := 2 }

/-- The receiver's "blocks" state of 95_test_vectors.md section 2.5. -/
def blocks : State :=
  { at' .rBlkHdr .rxRead with
    temp_open := true, r_version := 1, r_name_len := 5, r_total := 3, r_fcrc := 0x352441C2, r_name := name }

/-- `blocks` after the header and payload of "ab", and the first three bytes of its CRC. -/
def blockCrc : State :=
  { blocks with state := .rBlkCrc, r_blk_len := 2, r_payload := [0x61, 0x62], r_buf := [0x6D, 0x48, 0x83] }

/- WellFormed smoke tests. -/

/-- R130: a byte string operand of 65536 bytes does not fit its length field. -/
theorem test_wf_refuses_long_data : ¬ (Instr.crcFeed (List.replicate 65536 0)).WellFormed := by
  show ¬ (List.replicate 65536 (0 : Byte)).length ≤ 65535
  rw [List.length_replicate]
  decide

theorem test_wf_refuses_long_name : ¬ (Instr.encHs 0 0 (List.replicate 65536 0)).WellFormed := by
  show ¬ (List.replicate 65536 (0 : Byte)).length ≤ 65535
  rw [List.length_replicate]
  decide

theorem test_wf_refuses_long_payload : ¬ (Instr.encBlk 0 0 (List.replicate 65536 0)).WellFormed := by
  show ¬ (List.replicate 65536 (0 : Byte)).length ≤ 65535
  rw [List.length_replicate]
  decide

theorem test_wf_admits_65535_bytes : (Instr.sFileEnd (List.replicate 65535 0)).WellFormed := by
  show (List.replicate 65535 (0 : Byte)).length ≤ 65535
  rw [List.length_replicate]

/-- R12: equal magics, equal ACK and NAK, equal tokens. -/
theorem test_params_refused :
    ¬ Params.WellFormed { Params.reference with sessMagic := ⟨0x57, 0x52, 0x48, 0x53⟩ } ∧
    ¬ Params.WellFormed { Params.reference with nakByte := 0x06 } ∧
    ¬ Params.WellFormed { Params.reference with noToken := ⟨0x4F, 0x4B⟩ } ∧ Params.reference.WellFormed := by
  decide

/- Decoding: the bytes written out from R130 and R132. -/

theorem test_decode_crcInit : decode [0x10, 0x78, 0x56, 0x34, 0x12] = .ok (.crcInit 0x12345678) := by decide
theorem test_decode_crcFeed : decode [0x11, 0x02, 0x00, 0xAA, 0xBB] = .ok (.crcFeed [0xAA, 0xBB]) := by decide
theorem test_decode_crcRead : decode [0x12] = .ok .crcRead := by decide
theorem test_decode_encHs :
    decode ([0x20] ++ [8, 7, 6, 5, 4, 3, 2, 1] ++ [0x0C, 0x0B, 0x0A, 0x09] ++ [2, 0, 0x61, 0x62]) =
      .ok (.encHs 0x0102030405060708 0x090A0B0C [0x61, 0x62]) := by decide
theorem test_decode_decHs : decode [0x21, 0x01, 0x00, 0x57] = .ok (.decHs [0x57]) := by decide
theorem test_decode_encSess :
    decode ([0x22] ++ [8, 7, 6, 5, 4, 3, 2, 1] ++ [0x0C, 0x0B, 0x0A, 0x09]) =
      .ok (.encSess 0x0102030405060708 0x090A0B0C) := by decide
theorem test_decode_decSess : decode [0x23, 0x00, 0x00] = .ok (.decSess []) := by decide
theorem test_decode_encBlk :
    decode [0x24, 0x02, 0x01, 0x6F, 0xDF, 0xB9, 0x06, 0x01, 0x00, 0x63] = .ok (.encBlk 0x0102 0x06B9DF6F [0x63]) := by
  decide
theorem test_decode_decBlk : decode [0x25, 0x02, 0x00, 0x05, 0x06] = .ok (.decBlk [5, 6]) := by decide
theorem test_decode_tokClass : decode [0x26, 0x15] = .ok (.tokClass 0x15) := by decide
theorem test_decode_finClass : decode [0x27, 0x4F, 0x4B] = .ok (.finClass 0x4F 0x4B) := by decide
theorem test_decode_syncArm :
    decode [0x30, 0x57, 0x52, 0x48, 0x53] = .ok (.syncArm ⟨0x57, 0x52, 0x48, 0x53⟩) := by decide
theorem test_decode_syncFeed : decode [0x31, 0x53] = .ok (.syncFeed 0x53) := by decide
theorem test_decode_sStart : decode [0x40, 0x00, 0x02, 0x05, 0x01] = .ok (.sStart 512 261) := by decide
theorem test_decode_rStart : decode [0x41] = .ok .rStart := by decide
theorem test_decode_modeDone : decode [0x42, 0x01] = .ok (.modeDone 1) := by decide
theorem test_decode_sFileData : decode [0x43, 0x02, 0x00, 0x61, 0x62] = .ok (.sFileData [0x61, 0x62]) := by decide
theorem test_decode_sFileEnd : decode [0x44, 0x01, 0x00, 0x61] = .ok (.sFileEnd [0x61]) := by decide
theorem test_decode_sBlockData : decode [0x45, 0x01, 0x00, 0x63] = .ok (.sBlockData [0x63]) := by decide
theorem test_decode_evRx : decode [0x50, 0x06] = .ok (.evRx 6) := by decide
theorem test_decode_evTimeout : decode [0x51] = .ok .evTimeout := by decide
theorem test_decode_evIoError : decode [0x52] = .ok .evIoError := by decide
theorem test_decode_evAbort : decode [0x53] = .ok .evAbort := by decide
theorem test_decode_regRead : decode [0x60, 0x1A] = .ok (.regRead 0x1A) := by decide
theorem test_decode_reset : decode [0x61] = .ok .reset := by decide

/-- V100 to V104: no legal command. -/
theorem test_decode_refuses :
    decode [] = .error .empty ∧ decode [0x00] = .error (.reservedOpcode 0) ∧
    decode [0x13] = .error (.reservedOpcode 0x13) ∧ decode [0x12, 0x00] = .error (.wrongLength 1 2) ∧
    decode [0x11, 0x03, 0x00, 0x61, 0x62] = .error (.wrongLength 6 5) := by decide

/-- A table word of EV_RX 0x06 in the table's own bit order: opcode in bits 7 to 0, operand in bits 15 to 8. -/
theorem test_table_word : decodeTableWord 16 0x0650 = some (.evRx 6) ∧ decodeTableWord 8 0x61 = some .reset := by
  decide

/- One step of each command; the vector of 95_test_vectors.md is named. -/

/-- V8. -/
theorem test_crcInit : (shown (exec (.crcInit 0x9BE3E0A3) State.reset)) = some (.idle, [0], []) ∧
    nextOf (exec (.crcInit 5) State.reset) =
      some { State.reset with crc_unit := 5, responses := [⟨.ok, []⟩] } := by decide

set_option maxRecDepth 4000 in
/-- P1. -/
theorem test_crcFeed :
    nextOf (exec (.crcFeed [0x35, 0x36, 0x37, 0x38, 0x39]) { State.reset with crc_unit := 0x9BE3E0A3 }) =
      some { State.reset with crc_unit := 0xCBF43926, responses := [⟨.ok, []⟩] } := by decide

/-- P1. -/
theorem test_crcRead : shown (exec .crcRead { State.reset with crc_unit := 0xCBF43926 }) =
    some (.idle, [0, 0x26, 0x39, 0xF4, 0xCB], []) := by decide

/-- V20. -/
theorem test_encHs : shown (exec (.encHs 3 0x352441C2 name) State.reset) =
    some (.idle, [0, 0x57, 0x52, 0x48, 0x53] ++ hsFixed ++ name, []) := by decide

/-- V23: a trailing byte is ignored. -/
theorem test_decHs : shown (exec (.decHs ([0x57, 0x52, 0x48, 0x53] ++ hsFixed ++ name ++ [0])) State.reset) =
    some (.idle, 0 :: (hsFixed ++ name), []) := by decide

/-- V26: the name is cut short. -/
theorem test_decHs_short : shown (exec (.decHs ([0x57, 0x52, 0x48, 0x53] ++ hsFixed ++ name.dropLast)) State.reset) =
    some (.idle, [1], []) := by decide

/-- V28. -/
theorem test_encSess : shown (exec (.encSess 3 0x352441C2) State.reset) =
    some (.idle, [0, 0x57, 0x52, 0x53, 0x53, 1, 3, 0, 0, 0, 0, 0, 0, 0, 0xC2, 0x41, 0x24, 0x35], []) := by decide

/-- V30. -/
theorem test_decSess :
    shown (exec (.decSess [0x57, 0x52, 0x53, 0x53, 1, 3, 0, 0, 0, 0, 0, 0, 0, 0xC2, 0x41, 0x24, 0x35]) State.reset) =
      some (.idle, [0, 1, 3, 0, 0, 0, 0, 0, 0, 0, 0xC2, 0x41, 0x24, 0x35], []) := by decide

/-- V25's other way round: a session decoder refuses the handshake magic (V32). -/
theorem test_decSess_magic :
    shown (exec (.decSess ([0x57, 0x52, 0x48, 0x53, 1] ++ List.replicate 14 0)) State.reset) =
      some (.idle, [1], []) := by decide

/-- V34. -/
theorem test_encBlk : shown (exec (.encBlk 1 0x06B9DF6F [0x63]) State.reset) =
    some (.idle, [0, 1, 0, 1, 0, 0x63, 0x6F, 0xDF, 0xB9, 0x06], []) := by decide

/-- V36. -/
theorem test_decBlk : shown (exec (.decBlk [1, 0, 1, 0, 0x63, 0x6F, 0xDF, 0xB9, 0x06]) State.reset) =
    some (.idle, [0, 1, 0, 1, 0, 0x6F, 0xDF, 0xB9, 0x06, 0x63], []) := by decide

/-- V39. -/
theorem test_decBlk_short : shown (exec (.decBlk [5, 0, 3, 0, 0x61, 0x62]) State.reset) = some (.idle, [1], []) := by
  decide

/-- V41. -/
theorem test_tokClass : shown (exec (.tokClass 0x06) State.reset) = some (.idle, [0, 1], []) ∧
    shown (exec (.tokClass 0x15) State.reset) = some (.idle, [0, 2], []) := by decide

/-- V42: the byte order matters. -/
theorem test_finClass : shown (exec (.finClass 0x4F 0x4B) State.reset) = some (.idle, [0, 1], []) ∧
    shown (exec (.finClass 0x4B 0x4F) State.reset) = some (.idle, [0, 0], []) := by decide

/-- V51. -/
theorem test_syncArm : nextOf (exec (.syncArm ⟨0x57, 0x52, 0x48, 0x53⟩) State.reset) =
    some { State.reset with
      sc_magic := ⟨0x57, 0x52, 0x48, 0x53⟩, sc_armed := true, responses := [⟨.ok, []⟩] } := by decide

/-- V50: refused while not armed. -/
theorem test_syncFeed_unarmed : nextOf (exec (.syncFeed 0x57) State.reset) =
    some { State.reset with illegal := true, responses := [⟨.rejected, []⟩] } := by decide

/-- V52: the last byte matches and disarms. -/
theorem test_syncFeed :
    nextOf (exec (.syncFeed 0x53)
      { State.reset with
        sc_magic := ⟨0x57, 0x52, 0x48, 0x53⟩, sc_armed := true, sc_win := [0x52, 0x57, 0x52, 0x48] }) =
      some { State.reset with
        sc_magic := ⟨0x57, 0x52, 0x48, 0x53⟩, sc_matched := true, responses := [⟨.ok, [1]⟩] } := by decide

/-- V64. -/
theorem test_sStart : shown (exec (.sStart 512 5) State.reset) = some (.sModePending, [0], [.modeReq .sender]) := by
  decide

/-- V60. -/
theorem test_sStart_zero : shown (exec (.sStart 0 3) State.reset) =
    some (.sFailed, [0], [.endTransfer .configError]) := by decide

/-- P3. -/
theorem test_rStart : shown (exec .rStart State.reset) = some (.rModePending, [0], [.modeReq .receiver]) := by decide

/-- V62, and P3. -/
theorem test_modeDone : shown (exec (.modeDone 2) (at' .sModePending .none)) = some (.sModePending, [0xFF], []) ∧
    shown (exec (.modeDone 1) (at' .rModePending .none)) = some (.rSyncHs, [0], [.timerArm .hsSync]) := by decide

set_option maxRecDepth 4000 in
/-- P2: the second chunk. -/
theorem test_sFileData :
    nextOf (exec (.sFileData [0x63]) { at' .sModeEntered .none with s_total := 2, s_fcrc := 0x9E83486D }) =
      some { at' .sModeEntered .none with s_total := 3, s_fcrc := 0x352441C2, responses := [⟨.ok, []⟩] } := by decide

/-- P2. -/
theorem test_sFileEnd :
    shown (exec (.sFileEnd name) { at' .sModeEntered .none with s_total := 3, s_fcrc := 0x352441C2 }) =
      some (.sAwaitHsAck, [0],
        [.tx ([0x57, 0x52, 0x48, 0x53] ++ hsFixed ++ name), .timerArm .hsAck]) := by decide

set_option maxRecDepth 4000 in
/-- P2. -/
theorem test_sBlockData : shown (exec (.sBlockData [0x61, 0x62]) needData) =
    some (.sAwaitResp, [0], [.tx block0, .timerArm .blockResp]) := by decide

/-- V69. -/
theorem test_sBlockData_long : shown (exec (.sBlockData [0x61, 0x62, 0x63]) needData) =
    some (.sFailed, [0], [.endTransfer .ioError]) := by decide

/-- P2: the ACK of block 0 asks for the last byte. -/
theorem test_evRx_ack : shown (exec (.evRx 0x06) { blockWait with outputs := [] }) =
    some (.sNeedData, [0], [.timerStop, .dataReq 1]) := by decide

set_option maxRecDepth 4000 in
/-- P3: the last byte of a good block. -/
theorem test_evRx_block : shown (exec (.evRx 0x9E) blockCrc) =
    some (.rBlkHdr, [0], [.writeTemp [0x61, 0x62], .tx [0x06], .timerArm .rxRead]) := by decide

/-- P2: a timeout in the block wait resends. -/
theorem test_evTimeout : shown (exec .evTimeout { blockWait with outputs := [] }) =
    some (.sAwaitResp, [0], [.tx block0, .timerArm .blockResp]) := by decide

/-- V85. -/
theorem test_evTimeout_read : shown (exec .evTimeout blocks) =
    some (.rFailed, [0], [.timerStop, .endTransfer .linkTimeout]) := by decide

/-- V75, with V107. -/
theorem test_evIoError : shown (exec .evIoError (at' .sAwaitFinal .final)) =
    some (.sFailed, [0], [.timerStop, .endTransfer .ioError]) ∧
    shown (exec .evIoError State.reset) = some (.idle, [2], []) := by decide

/-- V76. -/
theorem test_evAbort : shown (exec .evAbort needData) = some (.sFailed, [0], [.endTransfer .interrupted]) := by decide

/-- V92: STATUS in the "blocks" state after a refused command. -/
theorem test_regRead : shown (exec (.regRead 0) { blocks with illegal := true }) =
    some (.rBlkHdr, [0, 0x1B, 0, 0xDA, 1, 0, 0, 0, 0], []) := by decide

/-- V110. -/
theorem test_regRead_reserved : shown (exec (.regRead 0x0B) State.reset) = some (.idle, [0xFF], []) := by decide

/-- V77. -/
theorem test_reset : nextOf (exec .reset { blockWait with outputs := [] }) =
    some { State.reset with outputs := [.timerStop], responses := [⟨.ok, []⟩] } := by decide

/-- R135, log 12: the trace bytes of outputs. -/
theorem test_outputBytes : outputBytes (.tx [0x06]) = [0x80, 1, 0, 0, 0, 6] ∧ outputBytes (.dataReq 2) = [0x84, 2, 0] ∧
    outputBytes (.endTransfer .integrityFile) = [0x89, 5] := by decide

/-- R409: the exit status of an END code. -/
theorem test_exitStatus : exitStatus .none = 0 ∧ exitStatus .integrityFile = 1 ∧ exitStatus .interrupted = 130 := by
  decide

/-- A link whose receiver runs `r`, with the byte `b` on its way and an old destination file. -/
def receiverLink (r : State) (b : Byte) : Link :=
  let l := linkStart Params.reference [] name 1 1 (some [0x78])
  { l with
    receiver := r, toReceiver := [b],
    receiverHost := { l.receiverHost with temp := some [0x79], tempOpen := true, deadline := r.timer_kind } }

/-- What a receiver's host shows: the temporary file, the destination, the bytes sent and the exit status. -/
def hostShown (l : Option Link) : Option (List (Option (List Byte)) × Option Nat) :=
  l.map (fun l => ([l.receiverHost.temp, l.receiverHost.dest, some l.toSender], l.receiverHost.exit))

/-- R460, R461: a COMMIT cut short after the delete loses the destination and keeps the temporary file; no OK token and
no END follow, and the exit status is nonzero although the engine is in R_COMMITTED. -/
theorem test_commit_cut_short :
    hostShown (applyMove (some ⟨2, 1⟩) .deliverToReceiver
      (receiverLink { at' .rReadSess .rxRead with r_version := 1, r_buf := 1 :: List.replicate 11 0 } 0)) =
      some ([some [], none, some []], some 1) := by decide

set_option maxRecDepth 4000 in
/-- R460: a WRITE_TEMP that fails after one byte sends no ACK and ends with IO_ERROR; a TIMER_ARM cannot fail. -/
theorem test_write_fails :
    hostShown (applyMove (some ⟨0, 1⟩) .deliverToReceiver (receiverLink blockCrc 0x9E)) =
      some ([some [0x79, 0x61], some [0x78], some []], some 1) ∧
    applyMove (some ⟨2, 0⟩) .deliverToReceiver (receiverLink blockCrc 0x9E) = none := by decide

/-- The sender's engine after a source file of `content` is read for the block that V68 asks for. -/
def afterChange (content : List Byte) : Option (StateCode × ErrorCode) :=
  let l := linkStart Params.reference [0x61, 0x62, 0x63] name 2 3 none
  (runMoves [(none, .changeFile content), (none, .blockData)]
    { l with sender := needData, senderHost := { l.senderHost with started := true, asked := some 2 } }).map
      (fun l => (l.sender.state, l.sender.error))

set_option maxRecDepth 4000 in
/-- R455: changed contents of the right length are not caught by the sender; a file grown too short is (R247). -/
theorem test_changed_file : afterChange [0x62, 0x62, 0x63] = some (.sAwaitResp, .none) ∧
    afterChange [0x61] = some (.sFailed, .ioError) := by decide

/-- The receiver and its file store after RESET and a second start at the end of a transfer with bytes left over. -/
def secondTransfer : Option Link :=
  let l := receiverLink (at' .rCommitted .none) 0x57
  runMoves [(none, .resetReceiver), (none, .startReceiver), (none, .modeDoneReceiver true), (none, .deliverToReceiver)]
    { l with receiverHost := { l.receiverHost with started := true, ended := some .none }.close }

/-- R451, R452: the left-over byte is read by the next transfer's first wait, and both files are still there. -/
theorem test_second_transfer :
    secondTransfer.map (fun l => (l.receiver.state, l.receiver.e_win, l.toReceiver)) = some (.rSyncHs, [0x57], []) ∧
    hostShown secondTransfer = some ([some [0x79], some [0x78], some []], none) := by decide

/- Witnesses: for each statement with hypotheses, states and operands that meet them, clause by clause. -/

/-- CrcIsAffine, and its values in 95_test_vectors.md section 2.1. -/
theorem test_witness_crcIsAffine : ([0x61, 0x62] : List Byte).length = ([0x63, 0x01] : List Byte).length ∧
    crc [0x61, 0x62] 5 ^^^ crc [0x63, 0x01] 5 = 0xE68D5260 := by decide +kernel

theorem bitOf_beyond (a : List Byte) (n : Nat) (h : 8 * a.length ≤ n) : bitOf a n = false := by
  have : a[n / 8]? = none := List.getElem?_eq_none (by omega)
  simp [bitOf, byteAt, this]

/-- CrcDetectsBursts: an error of exactly 32 consecutive bits, from bit 0 to bit 31. -/
theorem test_witness_crcDetectsBursts : ([0, 0, 0, 0] : List Byte).length = ([1, 0, 0, 0x80] : List Byte).length ∧
    ([0, 0, 0, 0] : List Byte) ≠ [1, 0, 0, 0x80] ∧
    ∀ n, bitOf [0, 0, 0, 0] n ≠ bitOf [1, 0, 0, 0x80] n → 0 ≤ n ∧ n < 0 + 32 := by
  refine ⟨by decide, by decide, fun n h => ⟨Nat.zero_le _, ?_⟩⟩
  by_contra hn
  exact h (by rw [bitOf_beyond _ _ (by simp; omega), bitOf_beyond _ _ (by simp; omega)])

/-- FrameRoundTrips: a name and a payload of 65535 bytes; frames that decode, with the expected version. -/
theorem test_witness_frameRoundTrips : (List.replicate 65535 (0 : Byte)).length ≤ 65535 ∧
    (∃ f, decodeHandshake Params.reference ([0x57, 0x52, 0x48, 0x53] ++ hsFixed ++ name ++ [0]) = some f ∧
      f.version = Params.reference.protoVersion) ∧
    (∃ f, decodeSession Params.reference
        [0x57, 0x52, 0x53, 0x53, 1, 3, 0, 0, 0, 0, 0, 0, 0, 0xC2, 0x41, 0x24, 0x35] = some f ∧
      f.version = Params.reference.protoVersion) ∧
    (∃ f, decodeBlock block0 = some f) :=
  ⟨by rw [List.length_replicate], ⟨_, rfl, rfl⟩, ⟨_, rfl, rfl⟩, ⟨_, rfl⟩⟩

/-- TokenClassCommands. -/
theorem test_witness_tokenClassCommands : State.reset.params.WellFormed := by decide

/-- SyncCommands: not armed, and armed. -/
theorem test_witness_syncCommands :
    State.reset.sc_armed = false ∧ { State.reset with sc_armed := true }.sc_armed = true := by decide

/-- StandaloneUnitsAreIsolated: two states that differ in a transfer field only. -/
theorem test_witness_standaloneUnits : isStandalone (.syncFeed 0) = true ∧ isStandalone .crcRead = true ∧
    blocks.params = State.reset.params ∧ blocks.crc_unit = State.reset.crc_unit ∧
    blocks.sc_magic = State.reset.sc_magic ∧ blocks.sc_win = State.reset.sc_win ∧
    blocks.sc_armed = State.reset.sc_armed ∧ blocks.sc_matched = State.reset.sc_matched ∧
    (∃ t, exec .crcRead State.reset = .next t) ∧ ∃ t, exec .crcRead blocks = .next t :=
  ⟨rfl, rfl, rfl, rfl, rfl, rfl, rfl, rfl, ⟨_, rfl⟩, ⟨_, rfl⟩⟩

/-- StartCommands: the least operands, and each operand at 0. -/
theorem test_witness_startCommands : State.reset.state = .idle ∧ (1 : Half) ≠ 0 ∧ (65535 : Half) ≠ 0 ∧
    ((0 : Half) = 0 ∨ (3 : Half) = 0) ∧ ((2 : Half) = 0 ∨ (0 : Half) = 0) := by decide

/-- ModeDoneCommand: each role, and the operands 2 and 255. -/
theorem test_witness_modeDone : (at' .sModePending .none).state = .sModePending ∧
    (at' .rModePending .none).state = .rModePending ∧ (2 : Byte) ≠ 0 ∧ (2 : Byte) ≠ 1 ∧ (255 : Byte) ≠ 0 ∧
    (255 : Byte) ≠ 1 := by decide

/-- SFileDataCommand: the total reaches 2^64 - 1, and 2^64. -/
theorem test_witness_sFileData :
    (at' .sModeEntered .none).state = .sModeEntered ∧
    { at' .sModeEntered .none with s_total := BitVec.ofNat 64 (2 ^ 64 - 2) }.s_total.toNat +
      ([7] : List Byte).length < 2 ^ 64 ∧
    2 ^ 64 ≤ { at' .sModeEntered .none with s_total := BitVec.ofNat 64 (2 ^ 64 - 1) }.s_total.toNat +
      ([7] : List Byte).length := by decide

/-- SFileEndCommand, SBlockDataCommand: the exact length, and one byte more. -/
theorem test_witness_sBlockData : (at' .sModeEntered .none).state = .sModeEntered ∧ needData.state = .sNeedData ∧
    ([0x61, 0x62] : List Byte).length = needData.s_curlen.toNat ∧
    ([0x61, 0x62, 0x63] : List Byte).length ≠ needData.s_curlen.toNat := by decide

/-- RxHandshakeAnswer: well-formed parameters, and noise. -/
theorem test_witness_rxHandshakeAnswer : (at' .sAwaitHsAck .hsAck).state = .sAwaitHsAck ∧
    (at' .sAwaitHsAck .hsAck).params.WellFormed ∧ (0x41 : Byte) ≠ Params.reference.ackByte ∧
    (0x41 : Byte) ≠ Params.reference.nakByte := by decide

/-- RxBlockAck: the block that ends the file. -/
theorem test_witness_rxBlockAck : { blockWait with s_sent := 1 }.state = .sAwaitResp ∧
    { blockWait with s_sent := 1 }.s_sent.toNat + blockWait.s_curlen.toNat ≤ blockWait.s_total.toNat := by decide

/-- BlockAttemptFails: both policies, noise, and a deadline that expires. -/
theorem test_witness_blockAttemptFails : blockWait.state = .sAwaitResp ∧ blockWait.params.WellFormed ∧
    (0x41 : Byte) ≠ blockWait.params.ackByte ∧ (0x41 : Byte) ≠ blockWait.params.nakByte ∧
    blockWait.params.blockWaitOther = .asNak ∧
    { Params.reference with blockWaitOther := .ignore }.blockWaitOther = .ignore ∧
    blockWait.timer_kind = .blockResp := by decide

/-- RxFinalToken: the first byte, and the second. -/
theorem test_witness_rxFinalToken : (at' .sAwaitFinal .final).state = .sAwaitFinal ∧
    (at' .sAwaitFinal .final).s_fin = [] ∧ { at' .sAwaitFinal .final with s_fin := [0x4F] }.s_fin = [0x4F] := by decide

/-- RxSyncByte: both syncs. -/
theorem test_witness_rxSyncByte : (at' .rSyncHs .hsSync).state = .rSyncHs ∧
    (at' .rSyncSess .sessSync).state = .rSyncSess := by decide

/-- RxHandshakeFixed: the first byte, and the fifteenth of a handshake with a name and of one without. -/
theorem test_witness_rxHandshakeFixed : (at' .rReadHsFixed .rxRead).state = .rReadHsFixed ∧
    (at' .rReadHsFixed .rxRead).r_buf.length ≠ 14 ∧
    hsFixed.dropLast ++ [0x35] = [1] ++ le16 5 ++ le64 3 ++ le32 0x352441C2 ∧
    (1 :: List.replicate 13 (0 : Byte)) ++ [0] = [1] ++ le16 0 ++ le64 0 ++ le32 0 := by decide

/-- RxHandshakeName. -/
theorem test_witness_rxHandshakeName : (at' .rReadHsName .rxRead).state = .rReadHsName := by decide

/-- RxSession: the first byte, and the thirteenth. -/
theorem test_witness_rxSession : (at' .rReadSess .rxRead).state = .rReadSess ∧
    (at' .rReadSess .rxRead).r_buf.length ≠ 12 ∧
    [1, 3, 0, 0, 0, 0, 0, 0, 0, 0xC2, 0x41, 0x24] ++ [0x35] = [1] ++ le64 3 ++ le32 0x352441C2 := by decide

/-- RxBlockHeader: the first byte, and the fourth of an empty and of a full header. -/
theorem test_witness_rxBlockHeader : blocks.state = .rBlkHdr ∧ blocks.r_buf.length ≠ 3 ∧
    [1, 0, 0] ++ [0] = le16 1 ++ le16 0 ∧ [0xFF, 0xFF, 0xFF] ++ [0xFF] = le16 65535 ++ le16 65535 := by decide

/-- RxBlockPayload. -/
theorem test_witness_rxBlockPayload : { blocks with state := .rBlkPayload }.state = .rBlkPayload := by decide

set_option maxRecDepth 4000 in
/-- RxBlockDecision: the first byte, a good block, and one with a bad CRC. -/
theorem test_witness_rxBlockDecision : blockCrc.state = .rBlkCrc ∧
    { blockCrc with r_buf := [] }.r_buf.length ≠ 3 ∧ blockCrc.r_buf ++ [0x9E] = le32 0x9E83486D ∧
    blockCrc.r_blk_seq = blockCrc.r_exp_seq ∧ crc blockCrc.r_payload 0 = 0x9E83486D ∧
    blockCrc.r_buf ++ [0x9F] = le32 0x9F83486D ∧
    ¬ (blockCrc.r_blk_seq = blockCrc.r_exp_seq ∧ crc blockCrc.r_payload 0 = 0x9F83486D) := by decide

/-- WholeBlockIsAccepted, FlippedBitIsRejected: a block that leaves the file short, one that ends it with the declared
CRC, one that ends it with another, and a bit of a payload byte. -/
theorem test_witness_wholeBlock : blocks.state = .rBlkHdr ∧ blocks.r_buf = [] ∧
    blocks.r_count + ([0x61, 0x62] : List Byte).length < blocks.r_total.toNat ∧
    blocks.r_total.toNat ≤ blocks.r_count + ([0x61, 0x62, 0x63] : List Byte).length ∧
    crc [0x61, 0x62, 0x63] 0 = blocks.r_fcrc ∧ crc [0x61, 0x62, 0x64] 0 ≠ blocks.r_fcrc ∧
    blocks.r_count < blocks.r_total.toNat ∧ ([] ++ (0x61 : Byte) :: [0x62]).length ≤ 65535 ∧ 7 < 8 := by
  decide +kernel

/-- SyncSkipsNoise: one byte of noise before the magic. -/
theorem test_witness_syncSkipsNoise : (at' .rSyncHs .hsSync).state = .rSyncHs ∧ (at' .rSyncHs .hsSync).e_win = [] ∧
    ∀ pre post : List Byte,
      [0x0D] ++ magicBytes Params.reference.hsMagic = pre ++ magicBytes Params.reference.hsMagic ++ post →
        post = [] := by
  refine ⟨rfl, rfl, fun pre post h => ?_⟩
  have hl := congrArg List.length h
  cases pre with
  | nil => simp [magicBytes, Params.reference] at h
  | cons p pre =>
    simp at hl
    exact List.eq_nil_of_length_eq_zero (by omega)

/-- WholeHandshakeIsAcknowledged: an empty name, and one of 65535 bytes. -/
theorem test_witness_wholeHandshake : (at' .rReadHsFixed .rxRead).state = .rReadHsFixed ∧
    (at' .rReadHsFixed .rxRead).r_buf = [] ∧ ([] : List Byte).length ≤ 65535 ∧
    (List.replicate 65535 (0 : Byte)).length ≤ 65535 :=
  ⟨rfl, rfl, by decide, by rw [List.length_replicate]⟩

/-- TimeoutIsFatal: each wait with its deadline. -/
theorem test_witness_timeoutIsFatal :
    ∀ c ∈ [StateCode.sAwaitHsAck, .sAwaitFinal, .rSyncHs, .rSyncSess, .rReadHsFixed, .rReadHsName, .rReadSess, .rBlkHdr,
        .rBlkPayload, .rBlkCrc],
      (at' c (stateTimer Params.reference c)).state = c ∧
      (at' c (stateTimer Params.reference c)).timer_kind ≠ .none := by decide

/-- HostAborts: enabled in S_MODE_PENDING; not in IDLE, nor in R_COMMITTED. -/
theorem test_witness_hostAborts : (at' .sModePending .none).state ≠ .idle ∧
    stateKind (at' .sModePending .none).state ≠ .terminal ∧ State.reset.state = .idle ∧
    stateKind (at' .rCommitted .none).state = .terminal := by decide

/-- DisabledEventsChangeNothing: S_NEED_DATA reads nothing, R_BLK_CRC reads; no deadline after reset, and one armed
under the control invariant; IDLE, a terminal state and neither. -/
theorem test_witness_disabledEvents : needData.state ∉ Spec.readingStates ∧ blockCrc.state ∈ Spec.readingStates ∧
    State.reset.timer_kind = .none ∧ ControlInv blocks ∧ blocks.timer_kind ≠ .none ∧ State.reset.state = .idle ∧
    StateCode.rKeptPartial ∈ Spec.terminalStates ∧ blocks.state ≠ .idle ∧ blocks.state ∉ Spec.terminalStates :=
  ⟨by decide, by decide, rfl, ⟨by decide, rfl, rfl, rfl⟩, by decide, rfl, by decide, by decide, by decide⟩

/-- WaitsWithoutDeadline: a wait for the host, a read without RX_READ_DEADLINE, and the same read with it. -/
theorem test_witness_waits : ControlInv needData ∧ needData.state ∈ waitsWithoutDeadline needData.params ∧
    ControlInv { at' .rBlkHdr .none with params := { Params.reference with rxReadDeadline := false } } ∧
    StateCode.rBlkHdr ∈ waitsWithoutDeadline { Params.reference with rxReadDeadline := false } ∧ ControlInv blocks ∧
    blocks.state ≠ .idle ∧ blocks.state ∉ Spec.terminalStates ∧
    blocks.state ∉ waitsWithoutDeadline blocks.params :=
  ⟨⟨by decide, rfl, rfl, rfl⟩, by decide, ⟨by decide, rfl, rfl, rfl⟩, by decide, ⟨by decide, rfl, rfl, rfl⟩, by decide,
    by decide, by decide⟩

/-- UnacceptedCommandsAreRefused: one state for every clause. -/
theorem test_witness_unaccepted : blocks.state ≠ .idle ∧ blocks.state ≠ .sModePending ∧
    blocks.state ≠ .rModePending ∧ blocks.state ≠ .sModeEntered ∧ blocks.state ≠ .sNeedData := by decide

/-- PackedRegisterFields: the buffers at their bounds. -/
theorem test_witness_packedRegisters : (List.replicate 15 (0 : Byte)).length ≤ 15 ∧
    (List.replicate 65535 (0 : Byte)).length ≤ 65535 ∧ ([1, 2, 3, 4] : List Byte).length ≤ 4 :=
  ⟨by decide, by rw [List.length_replicate], by decide⟩

/-- ReservedRegistersAreRefused: both ends of each reserved range, and their neighbours. -/
theorem test_witness_reservedRegisters :
    (∀ a ∈ [0x0B, 0x0F, 0x1B, 0x1F, 0x23, 0x2F, 0x36, 0xFF],
      a ∈ List.range' 0x0B 5 ++ List.range' 0x1B 5 ++ List.range' 0x23 13 ++ List.range' 0x36 202) ∧
    ∀ a ∈ [0x00, 0x0A, 0x10, 0x1A, 0x20, 0x22, 0x30, 0x35],
      a ∉ List.range' 0x0B 5 ++ List.range' 0x1B 5 ++ List.range' 0x23 13 ++ List.range' 0x36 202 := by decide +kernel

/-- StepRunsDecodedCommand: a command that decodes, and one that does not. -/
theorem test_witness_stepRunsDecoded : State.reset.params.WellFormed ∧
    { State.reset with cmd_port := [[0x50, 0x06], [0x13]] }.cmd_port = [0x50, 0x06] :: [[0x13]] ∧
    decode [0x50, 0x06] = .ok (.evRx 6) ∧ decode [0x13] = .error (.reservedOpcode 0x13) := by decide

/-- StepWithoutCommand: ill-formed parameters, and well-formed ones with nothing on the port. -/
theorem test_witness_stepWithoutCommand :
    ¬ { State.reset with params := { Params.reference with nakByte := 0x06 } }.params.WellFormed ∧
    State.reset.params.WellFormed ∧ State.reset.cmd_port = [] := by decide

/-- DecodeOfEncode, EncodeOfDecode. -/
theorem test_witness_encoding : (Instr.encHs 3 5 name).WellFormed ∧ decode [0x12] = .ok .crcRead := by decide

/-- OneResponsePerCommand, ParametersAreHardwired: a step that takes a command. -/
theorem test_witness_oneResponse : { State.reset with cmd_port := [[0x12]] }.cmd_port = [0x12] :: [] ∧
    ∃ t, step { State.reset with cmd_port := [[0x12]] } = .next t := ⟨rfl, ⟨_, rfl⟩⟩

/-- IllegalIsSticky. -/
theorem test_witness_illegalIsSticky : { State.reset with illegal := true }.illegal = true ∧ Instr.crcRead ≠ .reset ∧
    ∃ t, exec .crcRead { State.reset with illegal := true } = .next t := ⟨rfl, by decide, ⟨_, rfl⟩⟩

/-- TerminalIsFinal: a failed sender and a committed receiver. -/
theorem test_witness_terminalIsFinal :
    ControlInv { at' .sFailed .none with error := .retryExhausted } ∧ ControlInv (at' .rCommitted .none) ∧
    stateKind .sFailed = .terminal ∧ stateKind .rCommitted = .terminal ∧ Instr.evTimeout ≠ .reset :=
  ⟨⟨by decide, rfl, rfl, rfl⟩, ⟨by decide, rfl, rfl, rfl⟩, rfl, rfl, by decide⟩

/-- FatalEntryTransmitsNothing, StepKeepsControlInv, EveryCommandCompletes: a fatal entry from a state that satisfies
the control invariant. -/
theorem test_witness_fatalEntry : ControlInv blocks ∧ stateKind blocks.state ≠ .terminal ∧
    ∃ t, exec .evAbort blocks = .next t ∧ t.state = .rFailed :=
  ⟨⟨by decide, rfl, rfl, rfl⟩, by decide, ⟨_, rfl, rfl⟩⟩

/-- ReceiverTransmitsOnlyTokens: the ACK of a block. -/
theorem test_witness_receiverTransmits : blockCrc.role = .receiver ∧ ControlInv blockCrc ∧
    ∃ t, exec (.evRx 0x9E) blockCrc = .next t :=
  ⟨rfl, ⟨by decide, rfl, rfl, rfl⟩, ⟨_, rfl⟩⟩

/-- CommitOnlyAfterVerification: the last byte of an empty file's session frame (V93). -/
theorem test_witness_commit : ∃ t,
    exec (.evRx 0)
      { at' .rReadSess .rxRead with r_version := 1, r_buf := 1 :: List.replicate 11 0 } = .next t ∧
    t.outputs = [] ++ t.outputs ∧ Output.commit ∈ t.outputs :=
  ⟨_, rfl, rfl, by decide⟩

/-- StepKeepsInv: the sender in the middle of a transfer satisfies the whole invariant, and steps. -/
theorem test_witness_stepKeepsInv : EngineInv blockWait ∧
    ∃ t, step { blockWait with cmd_port := [[0x50, 0x15]] } = .next t := by
  refine ⟨⟨⟨by decide, rfl, rfl, rfl⟩, ?_, ?_, ?_, ?_, ?_⟩, ⟨_, rfl⟩⟩
  · exact
      { otherRole := fun h => absurd rfl h
        early := by decide
        sentLe := by decide
        configured := by decide
        current := by decide
        schedule := fun _ => ⟨0, rfl, rfl⟩
        attempts := by decide
        noAttempt := by decide
        frame := fun _ => ⟨[0x61, 0x62], rfl, by decide +kernel⟩
        allSent := by decide
        fin := by decide
        token := by decide
        bounds := by decide }
  · exact
      { otherRole := fun _ => by unfold receiverAtReset; decide
        early := by decide
        window := by decide
        buffer := by decide
        name := by decide
        payload := by decide
        version := by decide
        count := by decide
        openedEarly := by decide
        opened := by decide
        committed := by decide
        keptPartial := by decide }
  · exact fun h => absurd h (by decide)
  · unfold AttemptInv
    decide
  · unfold ScannerInv
    decide

/-- LosslessTransferCompletes. -/
theorem test_witness_lossless : Params.reference.WellFormed ∧ ([0x61, 0x62, 0x63] : List Byte).length < 2 ^ 64 ∧
    name.length ≤ 65535 ∧ (2 : Half) ≠ 0 ∧ (3 : Half) ≠ 0 := by decide

end Sys2Proof.Tests
end

/-!
The code tables of the model against those of the statements, the STATUS word field by field (10_state.md R68), and
what REG_READ of a mapped address does (45_control.md R352).
-/

namespace Sys2Proof.Laws

open Sys2Proof Sys2Proof.Machine

/- The closed sets: the model's codes are the tables of the rules. -/

theorem stateByte_eq_stateNumber (c : StateCode) : stateByte c = Spec.stateNumber c := by
  cases c <;> rfl

theorem errorByte_eq_errorNumber (k : ErrorCode) : errorByte k = Spec.errorNumber k := by
  cases k <;> rfl

theorem roleBits_eq_roleNumber (r : Role) : roleBits r = Spec.roleNumber r := by
  cases r <;> rfl

theorem timerBits_eq_timerNumber (k : TimerKind) : timerBits k = Spec.timerNumber k := by
  cases k <;> rfl

/-- TERMINAL (R67) by the list of R32. -/
theorem isTerminal_eq_decide_mem (c : StateCode) : isTerminal c = decide (c ∈ Spec.terminalStates) := by
  cases c <;> rfl

/-- RX_READY by the list of R38. -/
theorem rxReady_eq_decide_mem (c : StateCode) : rxReady c = decide (c ∈ Spec.readingStates) := by
  cases c <;> rfl

/- Fields of a packed word: what stands above a part of it, and above a flag. -/

theorem getLsbD_append_high {m n : Nat} (a : BitVec m) (b : BitVec n) (k : Nat) :
    (a ++ b).getLsbD (n + k) = a.getLsbD k := by
  rw [BitVec.getLsbD_append, if_neg (by omega), Nat.add_sub_cancel_left]

theorem getLsbD_append_bit_zero {m : Nat} (a : BitVec m) (b : Bool) : (a ++ bit b).getLsbD 0 = b :=
  BitVec.getLsbD_append.trans (by simp [bit])

theorem getLsbD_append_bit_succ {m : Nat} (a : BitVec m) (b : Bool) (k : Nat) :
    (a ++ bit b).getLsbD (k + 1) = a.getLsbD k := by
  rw [Nat.add_comm k 1, getLsbD_append_high]

theorem extractLsb'_append_bit_succ {m : Nat} (a : BitVec m) (b : Bool) (k n : Nat) :
    (a ++ bit b).extractLsb' (k + 1) n = a.extractLsb' k n := by
  rw [Nat.add_comm k 1, extractLsb'_append_high]

/- The STATUS word: the three codes in bits 17:0, the flags above them. -/

/-- Bits 63:18 of the STATUS word (R68), as one word: TERMINAL at its bit 0. -/
def statusFlags (s : State) : BitVec 46 :=
  0#39 ++ bit s.temp_open ++ timerBits s.timer_kind ++ bit (rxReady s.state) ++ bit s.illegal
    ++ bit (isTerminal s.state)

theorem statusWord_extractLsb'_state (s : State) : (statusWord s).extractLsb' 0 8 = stateByte s.state :=
  BitVec.extractLsb'_append_eq_right

theorem statusWord_extractLsb'_error (s : State) : (statusWord s).extractLsb' 8 8 = errorByte s.error :=
  (extractLsb'_append_high _ _ 0 8).trans BitVec.extractLsb'_append_eq_right

theorem statusWord_extractLsb'_role (s : State) : (statusWord s).extractLsb' 16 2 = roleBits s.role :=
  (extractLsb'_append_high _ _ 8 2).trans
    ((extractLsb'_append_high _ _ 0 2).trans BitVec.extractLsb'_append_eq_right)

/-- Past STATE, ERROR and ROLE, from bit 18 up. -/
theorem statusWord_extractLsb'_flags (s : State) (k n : Nat) :
    (statusWord s).extractLsb' (8 + (8 + (2 + k))) n = (statusFlags s).extractLsb' k n :=
  (extractLsb'_append_high _ _ _ n).trans
    ((extractLsb'_append_high _ _ _ n).trans (extractLsb'_append_high _ _ k n))

theorem statusWord_getLsbD_flags (s : State) (k : Nat) :
    (statusWord s).getLsbD (8 + (8 + (2 + k))) = (statusFlags s).getLsbD k :=
  (getLsbD_append_high _ _ _).trans ((getLsbD_append_high _ _ _).trans (getLsbD_append_high _ _ k))

theorem statusWord_getLsbD_terminal (s : State) : (statusWord s).getLsbD 18 = isTerminal s.state :=
  (statusWord_getLsbD_flags s 0).trans (getLsbD_append_bit_zero _ _)

theorem statusWord_getLsbD_illegal (s : State) : (statusWord s).getLsbD 19 = s.illegal :=
  (statusWord_getLsbD_flags s 1).trans
    (by rw [statusFlags, getLsbD_append_bit_succ, getLsbD_append_bit_zero])

theorem statusWord_getLsbD_rxReady (s : State) : (statusWord s).getLsbD 20 = rxReady s.state :=
  (statusWord_getLsbD_flags s 2).trans
    (by rw [statusFlags, getLsbD_append_bit_succ, getLsbD_append_bit_succ, getLsbD_append_bit_zero])

/-- Past the three flags, from TIMER_KIND up. -/
theorem statusFlags_extractLsb'_upper (s : State) (k n : Nat) :
    (statusFlags s).extractLsb' (k + 3) n =
      (0#39 ++ bit s.temp_open ++ timerBits s.timer_kind).extractLsb' k n := by
  rw [statusFlags, extractLsb'_append_bit_succ, extractLsb'_append_bit_succ, extractLsb'_append_bit_succ]

theorem statusWord_extractLsb'_timer (s : State) : (statusWord s).extractLsb' 21 3 = timerBits s.timer_kind :=
  (statusWord_extractLsb'_flags s 3 3).trans
    ((statusFlags_extractLsb'_upper s 0 3).trans BitVec.extractLsb'_append_eq_right)

theorem statusWord_getLsbD_tempOpen (s : State) : (statusWord s).getLsbD 24 = s.temp_open := by
  refine (statusWord_getLsbD_flags s 6).trans ?_
  rw [statusFlags, getLsbD_append_bit_succ, getLsbD_append_bit_succ, getLsbD_append_bit_succ]
  exact (getLsbD_append_high _ _ 0).trans (getLsbD_append_bit_zero _ _)

theorem statusWord_extractLsb'_reserved (s : State) : (statusWord s).extractLsb' 25 39 = 0 :=
  (statusWord_extractLsb'_flags s 7 39).trans <|
    (statusFlags_extractLsb'_upper s 4 39).trans <|
      (extractLsb'_append_high _ _ 1 39).trans BitVec.extractLsb'_append_eq_left

/- REG_READ. -/

theorem exec_regRead (addr : Byte) (s : State) : exec (.regRead addr) s = execRegRead addr s := rfl

/-- REG_READ of an address of the map (R352): the value is answered, and nothing else changes. -/
theorem exec_regRead_of_regValue {addr : Byte} {s : State} {v : Dword} (h : regValue s addr = some v) :
    exec (.regRead addr) s = .next { s with responses := s.responses ++ [⟨.ok, le64 v⟩] } := by
  rw [exec_regRead, execRegRead, h]
  rfl

theorem regValue_status (s : State) : regValue s 0x00 = some (statusWord s) := rfl

/-- Settles O36, field by field: the word is `statusWord`, whose fields hold the model's codes, and these are the tables
of the rules. -/
theorem statusWordFields : Obligations.StatusWordFields := by
  intro s
  refine ⟨statusWord s, exec_regRead_of_regValue (regValue_status s), ?state, ?error, ?role, ?terminal,
    statusWord_getLsbD_illegal s, ?rxReady, ?timer, statusWord_getLsbD_tempOpen s, statusWord_extractLsb'_reserved s⟩
  case state => rw [statusWord_extractLsb'_state, stateByte_eq_stateNumber]
  case error => rw [statusWord_extractLsb'_error, errorByte_eq_errorNumber]
  case role => rw [statusWord_extractLsb'_role, roleBits_eq_roleNumber]
  case terminal => rw [statusWord_getLsbD_terminal, isTerminal_eq_decide_mem]
  case rxReady => rw [statusWord_getLsbD_rxReady, rxReady_eq_decide_mem]
  case timer => rw [statusWord_extractLsb'_timer, timerBits_eq_timerNumber]

end Sys2Proof.Laws

/-!
The whole answer of a command that answers, and the commands of the standalone CRC unit (40_crc.md R163 to R165): their
encodings and their next states.
-/

namespace Sys2Proof.Laws

open Sys2Proof Sys2Proof.Machine

/- The shared answers, as whole next states. -/

theorem answer_eq_next (st : Status) (bytes : List Byte) (s : State) :
    answer st bytes s = .next { s with responses := s.responses ++ [⟨st, bytes⟩] } := rfl

theorem accepted_eq_next (s : State) : accepted s = .next { s with responses := Spec.ok s } := rfl

/- The encodings (R130, R132): formats C32, CD and C0. -/

theorem encode_crcInit (seed : Word) : encode (.crcInit seed) = 0x10 :: le32 seed := rfl

theorem encode_crcFeed (data : List Byte) :
    encode (.crcFeed data) = 0x11 :: (le16 (BitVec.ofNat 16 data.length) ++ data) := rfl

theorem encode_crcRead : encode .crcRead = [0x12] := rfl

/- The meanings: only CRC_INIT and CRC_FEED write a field, `crc_unit`, and each answers OK. -/

theorem exec_crcInit (seed : Word) (s : State) :
    exec (.crcInit seed) s = .next { s with crc_unit := seed, responses := Spec.ok s } :=
  accepted_eq_next { s with crc_unit := seed }

theorem exec_crcFeed (data : List Byte) (s : State) :
    exec (.crcFeed data) s = .next { s with crc_unit := crc data s.crc_unit, responses := Spec.ok s } :=
  accepted_eq_next { s with crc_unit := crc data s.crc_unit }

theorem exec_crcRead (s : State) :
    exec .crcRead s = .next { s with responses := s.responses ++ [⟨.ok, le32 s.crc_unit⟩] } :=
  answer_eq_next .ok (le32 s.crc_unit) s

/-- Settles O1, command by command: the encoding of each and its next state. -/
theorem crcUnitCommands : Obligations.CrcUnitCommands := by
  intro s
  refine ⟨fun seed => ?init, fun data => ?feed, ?read⟩
  case init => exact ⟨encode_crcInit seed, exec_crcInit seed s⟩
  case feed => exact ⟨encode_crcFeed data, exec_crcFeed data s⟩
  case read => exact ⟨encode_crcRead, exec_crcRead s⟩

end Sys2Proof.Laws

/-!
The standalone codec commands (41_codec.md R190 to R197): a little-endian field that is read and written again is the
bytes it was read from, so a decoder answers a slice of its input; the encoders and the token classes.
-/

namespace Sys2Proof.Laws

open Sys2Proof Sys2Proof.Machine

/- Slices of a byte string. -/

theorem slice_zero (x : List Byte) (n : Nat) : slice x 0 n = x.take n := rfl

theorem slice_one {x : List Byte} {i : Nat} (h : i < x.length) : slice x i 1 = [byteAt x i] := by
  rw [slice, List.drop_eq_getElem_cons h, byteAt, List.getD_eq_getElem x 0 h]
  rfl

theorem slice_append_slice (x : List Byte) (i m n : Nat) : slice x i m ++ slice x (i + m) n = slice x i (m + n) := by
  rw [slice, slice, slice, List.take_add, List.drop_drop]

/- A field read and written again is the slice it stands in (R19, R82). -/

theorem le16_rdLe16_eq_slice {x : List Byte} {o : Nat} (h : o + 2 ≤ x.length) : le16 (rdLe16 x o) = slice x o 2 := by
  rw [le16_rdLe16, ← slice_append_slice x o 1 1, slice_one (by omega), slice_one (by omega)]
  rfl

theorem le32_rdLe32_eq_slice {x : List Byte} {o : Nat} (h : o + 4 ≤ x.length) : le32 (rdLe32 x o) = slice x o 4 := by
  rw [rdLe32, le32_append, le16_rdLe16_eq_slice (by omega), le16_rdLe16_eq_slice (by omega), slice_append_slice]

theorem le64_rdLe64_eq_slice {x : List Byte} {o : Nat} (h : o + 8 ≤ x.length) : le64 (rdLe64 x o) = slice x o 8 := by
  rw [rdLe64, le64_append, le32_rdLe32_eq_slice (by omega), le32_rdLe32_eq_slice (by omega), slice_append_slice]

/- When a frame decodes, and to what (R181, R183, R185). -/

theorem decodeHandshake_eq (P : Params) (x : List Byte) :
    decodeHandshake P x =
      if 19 ≤ x.length ∧ x.take 4 = magicBytes P.hsMagic ∧ 19 + (rdLe16 x 5).toNat ≤ x.length then
        some
          { version := byteAt x 4
            nameLen := rdLe16 x 5
            totalSize := rdLe64 x 7
            fileCrc32 := rdLe32 x 15
            name := slice x 19 (rdLe16 x 5).toNat
            consumed := 19 + (rdLe16 x 5).toNat }
      else none := by
  rw [decodeHandshake, slice_zero]
  by_cases hfixed : 19 ≤ x.length
  · by_cases hmagic : x.take 4 = magicBytes P.hsMagic
    · by_cases hname : 19 + (rdLe16 x 5).toNat ≤ x.length
      · rw [if_neg (by omega), if_neg (not_not_intro hmagic), if_neg (by omega), if_pos ⟨hfixed, hmagic, hname⟩]
      · rw [if_neg (by omega), if_neg (not_not_intro hmagic), if_pos (by omega), if_neg fun ⟨_, _, h⟩ => hname h]
    · rw [if_neg (by omega), if_pos hmagic, if_neg fun ⟨_, h, _⟩ => hmagic h]
  · rw [if_pos (by omega), if_neg fun h => hfixed h.1]

theorem decodeSession_eq (P : Params) (x : List Byte) :
    decodeSession P x =
      if 17 ≤ x.length ∧ x.take 4 = magicBytes P.sessMagic then
        some { version := byteAt x 4, totalSize := rdLe64 x 5, fileCrc32 := rdLe32 x 13, consumed := 17 }
      else none := by
  rw [decodeSession, slice_zero]
  by_cases hfixed : 17 ≤ x.length
  · by_cases hmagic : x.take 4 = magicBytes P.sessMagic
    · rw [if_neg (by omega), if_neg (not_not_intro hmagic), if_pos ⟨hfixed, hmagic⟩]
    · rw [if_neg (by omega), if_pos hmagic, if_neg fun ⟨_, h⟩ => hmagic h]
  · rw [if_pos (by omega), if_neg fun h => hfixed h.1]

/-- The test of the whole length covers the test of the header. -/
theorem decodeBlock_eq (x : List Byte) :
    decodeBlock x =
      if 8 + (rdLe16 x 2).toNat ≤ x.length then
        some
          { seq := rdLe16 x 0
            len := rdLe16 x 2
            payload := slice x 4 (rdLe16 x 2).toNat
            blockCrc32 := rdLe32 x (4 + (rdLe16 x 2).toNat)
            consumed := 8 + (rdLe16 x 2).toNat }
      else none := by
  rw [decodeBlock]
  by_cases hwhole : 8 + (rdLe16 x 2).toNat ≤ x.length
  · rw [if_neg (by omega), if_neg (by omega), if_pos hwhole]
  · rw [if_pos (show x.length < 8 + (rdLe16 x 2).toNat by omega), ite_self, if_neg hwhole]

/- The decoded fields, written in the order of the answer, are slices of the input. -/

theorem handshakeFields_eq_slice {x : List Byte} (n : Nat) (h : 19 ≤ x.length) :
    [byteAt x 4] ++ le16 (rdLe16 x 5) ++ le64 (rdLe64 x 7) ++ le32 (rdLe32 x 15) ++ slice x 19 n =
      slice x 4 (15 + n) := by
  rw [← slice_one (by omega), le16_rdLe16_eq_slice (by omega), le64_rdLe64_eq_slice (by omega),
    le32_rdLe32_eq_slice (by omega), slice_append_slice, slice_append_slice, slice_append_slice, slice_append_slice]

theorem sessionFields_eq_slice {x : List Byte} (h : 17 ≤ x.length) :
    [byteAt x 4] ++ le64 (rdLe64 x 5) ++ le32 (rdLe32 x 13) = slice x 4 13 := by
  rw [← slice_one (by omega), le64_rdLe64_eq_slice (by omega), le32_rdLe32_eq_slice (by omega), slice_append_slice,
    slice_append_slice]

theorem blockFields_eq_slices {x : List Byte} {n : Nat} (h : 8 + n ≤ x.length) :
    le16 (rdLe16 x 0) ++ le16 (rdLe16 x 2) ++ le32 (rdLe32 x (4 + n)) ++ slice x 4 n =
      x.take 4 ++ slice x (4 + n) 4 ++ slice x 4 n := by
  rw [le16_rdLe16_eq_slice (by omega), le16_rdLe16_eq_slice (by omega), le32_rdLe32_eq_slice (by omega),
    slice_append_slice, slice_zero]

/- The decoders' whole answers (R191, R193, R195). -/

theorem exec_decHs (x : List Byte) (s : State) :
    exec (.decHs x) s =
      .next { s with
        responses := s.responses ++
          [if 19 ≤ x.length ∧ x.take 4 = magicBytes s.params.hsMagic ∧ 19 + (rdLe16 x 5).toNat ≤ x.length
            then ⟨.ok, slice x 4 (15 + (rdLe16 x 5).toNat)⟩ else ⟨.formatError, []⟩] } := by
  change execDecHs x s = _
  rw [execDecHs, decodeHandshake_eq]
  split_ifs with h
  · rw [← handshakeFields_eq_slice _ h.1]
    exact answer_eq_next _ _ s
  · exact answer_eq_next _ _ s

theorem exec_decSess (x : List Byte) (s : State) :
    exec (.decSess x) s =
      .next { s with
        responses := s.responses ++
          [if 17 ≤ x.length ∧ x.take 4 = magicBytes s.params.sessMagic
            then ⟨.ok, slice x 4 13⟩ else ⟨.formatError, []⟩] } := by
  change execDecSess x s = _
  rw [execDecSess, decodeSession_eq]
  split_ifs with h
  · rw [← sessionFields_eq_slice h.1]
    exact answer_eq_next _ _ s
  · exact answer_eq_next _ _ s

theorem exec_decBlk (x : List Byte) (s : State) :
    exec (.decBlk x) s =
      .next { s with
        responses := s.responses ++
          [if 8 + (rdLe16 x 2).toNat ≤ x.length
            then ⟨.ok, x.take 4 ++ slice x (4 + (rdLe16 x 2).toNat) 4 ++ slice x 4 (rdLe16 x 2).toNat⟩
            else ⟨.formatError, []⟩] } := by
  change execDecBlk x s = _
  rw [execDecBlk, decodeBlock_eq]
  split_ifs with h
  · rw [← blockFields_eq_slices h]
    exact answer_eq_next _ _ s
  · exact answer_eq_next _ _ s

/-- Settles O7, command by command: the length field of a frame is the sum of its two bytes (R19), and the rest is the
whole answer of each decoder. -/
theorem codecDecoders : Obligations.CodecDecoders := by
  intro s x
  have hname : (rdLe16 x 5).toNat = (byteAt x 5).toNat + 256 * (byteAt x 6).toNat := rdLe16_toNat x 5
  have hpayload : (rdLe16 x 2).toNat = (byteAt x 2).toNat + 256 * (byteAt x 3).toNat := rdLe16_toNat x 2
  rw [← hname, ← hpayload]
  exact ⟨⟨rfl, exec_decHs x s⟩, ⟨rfl, exec_decSess x s⟩, ⟨rfl, exec_decBlk x s⟩⟩

/- The encoders' whole answers (R190, R192, R194): no operand is refused and no state is. -/

theorem exec_encHs (total : Dword) (fcrc : Word) (name : List Byte) (s : State) :
    exec (.encHs total fcrc name) s =
      .next { s with responses := s.responses ++ [⟨.ok, encodeHandshake s.params name total fcrc⟩] } :=
  answer_eq_next .ok (encodeHandshake s.params name total fcrc) s

theorem exec_encSess (total : Dword) (fcrc : Word) (s : State) :
    exec (.encSess total fcrc) s =
      .next { s with responses := s.responses ++ [⟨.ok, encodeSession s.params total fcrc⟩] } :=
  answer_eq_next .ok (encodeSession s.params total fcrc) s

theorem exec_encBlk (seq : Half) (bcrc : Word) (payload : List Byte) (s : State) :
    exec (.encBlk seq bcrc payload) s =
      .next { s with responses := s.responses ++ [⟨.ok, encodeBlock seq payload bcrc⟩] } :=
  answer_eq_next .ok (encodeBlock seq payload bcrc) s

/-- Settles O6, command by command: the frames are the encoders' own definitions, field by field. -/
theorem codecEncoders : Obligations.CodecEncoders := by
  intro s
  refine ⟨fun total fcrc name => ?handshake, fun total fcrc => ?session, fun seq bcrc payload => ?block⟩
  case handshake => exact ⟨rfl, exec_encHs total fcrc name s⟩
  case session => exact ⟨rfl, exec_encSess total fcrc s⟩
  case block => exact ⟨rfl, exec_encBlk seq bcrc payload s⟩

/- A choice of three values by two conditions: when it is each of them. -/

section ThreeWayChoice

variable {α : Type} {p q : Prop} [Decidable p] [Decidable q] {a b c : α}

theorem ite_ite_eq_first_iff (hab : a ≠ b) (hac : a ≠ c) : (if p then a else if q then b else c) = a ↔ p := by
  split_ifs with hp hq
  · exact iff_of_true rfl hp
  · exact iff_of_false hab.symm hp
  · exact iff_of_false hac.symm hp

/-- The second value is chosen exactly under its own condition only where the conditions exclude each other. -/
theorem ite_ite_eq_second_iff (hab : a ≠ b) (hbc : b ≠ c) (hpq : q → ¬ p) :
    (if p then a else if q then b else c) = b ↔ q := by
  split_ifs with hp hq
  · exact iff_of_false hab fun hq => hpq hq hp
  · exact iff_of_true rfl hq
  · exact iff_of_false hbc.symm hq

theorem ite_ite_eq_third_iff (hac : a ≠ c) (hbc : b ≠ c) :
    (if p then a else if q then b else c) = c ↔ ¬ p ∧ ¬ q := by
  split_ifs with hp hq
  · exact iff_of_false hac fun h => h.1 hp
  · exact iff_of_false hbc fun h => h.2 hq
  · exact iff_of_true rfl ⟨hp, hq⟩

end ThreeWayChoice

/- The token classes (R186): the first two exclude each other where the tokens differ (R12). -/

theorem tokClass_eq_ack_iff (P : Params) (b : Byte) : tokClass P b = .ack ↔ b = P.ackByte :=
  ite_ite_eq_first_iff (by decide) (by decide)

theorem tokClass_eq_nak_iff {P : Params} (hne : P.ackByte ≠ P.nakByte) (b : Byte) :
    tokClass P b = .nak ↔ b = P.nakByte :=
  ite_ite_eq_second_iff (by decide) (by decide) fun hnak hack => hne (hack.symm.trans hnak)

theorem tokClass_eq_other_iff (P : Params) (b : Byte) : tokClass P b = .other ↔ b ≠ P.ackByte ∧ b ≠ P.nakByte :=
  ite_ite_eq_third_iff (by decide) (by decide)

theorem tokenBytes_inj {t u : Bytes2} : tokenBytes t = tokenBytes u ↔ t = u := by
  cases t
  cases u
  simp [tokenBytes]

/-- The class of a token, read on the token and not on its bytes. -/
theorem finClass_tokenBytes (P : Params) (t : Bytes2) :
    finClass P (tokenBytes t) = if t = P.okToken then .ok else if t = P.noToken then .no else .malformed := by
  simp only [finClass, tokenBytes_inj]

theorem finClass_eq_ok_iff (P : Params) (t : Bytes2) : finClass P (tokenBytes t) = .ok ↔ t = P.okToken := by
  rw [finClass_tokenBytes]
  exact ite_ite_eq_first_iff (by decide) (by decide)

theorem finClass_eq_no_iff {P : Params} (hne : P.okToken ≠ P.noToken) (t : Bytes2) :
    finClass P (tokenBytes t) = .no ↔ t = P.noToken := by
  rw [finClass_tokenBytes]
  exact ite_ite_eq_second_iff (by decide) (by decide) fun hno hok => hne (hok.symm.trans hno)

theorem finClass_eq_malformed_iff (P : Params) (t : Bytes2) :
    finClass P (tokenBytes t) = .malformed ↔ t ≠ P.okToken ∧ t ≠ P.noToken := by
  rw [finClass_tokenBytes]
  exact ite_ite_eq_third_iff (by decide) (by decide)

/- The result bytes (R196, R197) tell the classes apart. -/

theorem tokClassByte_inj {c d : TokClass} : tokClassByte c = tokClassByte d ↔ c = d := by
  cases c <;> cases d <;> decide

theorem finClassByte_inj {c d : FinClass} : finClassByte c = finClassByte d ↔ c = d := by
  cases c <;> cases d <;> decide

theorem exec_tokClass (b : Byte) (s : State) :
    exec (.tokClass b) s =
      .next { s with responses := s.responses ++ [⟨.ok, [tokClassByte (tokClass s.params b)]⟩] } :=
  answer_eq_next .ok [tokClassByte (tokClass s.params b)] s

theorem exec_finClass (b0 b1 : Byte) (s : State) :
    exec (.finClass b0 b1) s =
      .next { s with responses := s.responses ++ [⟨.ok, [finClassByte (finClass s.params (tokenBytes ⟨b0, b1⟩))]⟩] } :=
  answer_eq_next .ok [finClassByte (finClass s.params (tokenBytes ⟨b0, b1⟩))] s

/-- Settles O9: the byte answered is the class's, the byte determines the class, and the class the token. -/
theorem tokenClassCommands : Obligations.TokenClassCommands := by
  rintro s ⟨-, hack, hok⟩
  refine ⟨fun b => ⟨rfl, _, exec_tokClass b s, ?ack, ?nak, ?other⟩,
    fun b0 b1 => ⟨rfl, _, exec_finClass b0 b1 s, ?ok, ?no, ?malformed⟩⟩
  case ack => exact (tokClassByte_inj (d := .ack)).trans (tokClass_eq_ack_iff s.params b)
  case nak => exact (tokClassByte_inj (d := .nak)).trans (tokClass_eq_nak_iff hack b)
  case other => exact (tokClassByte_inj (d := .other)).trans (tokClass_eq_other_iff s.params b)
  case ok => exact (finClassByte_inj (d := .ok)).trans (finClass_eq_ok_iff s.params ⟨b0, b1⟩)
  case no => exact (finClassByte_inj (d := .no)).trans (finClass_eq_no_iff hok ⟨b0, b1⟩)
  case malformed => exact (finClassByte_inj (d := .malformed)).trans (finClass_eq_malformed_iff s.params ⟨b0, b1⟩)

end Sys2Proof.Laws

/-!
The standalone scanner's commands (42_sync.md R222, R223): a feed is refused, ends the scan or moves the window on, as
the unit is armed and its last 4 bytes are the magic.
-/

namespace Sys2Proof.Laws

open Sys2Proof Sys2Proof.Machine

/-- A refusal (R356), as a whole next state. -/
theorem refuse_eq_next (s : State) : refuse s = .next (Spec.refused s) := rfl

/- The encodings (R130): formats CM and C8. -/

theorem encode_syncArm (m : Bytes4) : encode (.syncArm m) = [0x30, m.b0, m.b1, m.b2, m.b3] := rfl

theorem encode_syncFeed (b : Byte) : encode (.syncFeed b) = [0x31, b] := rfl

theorem exec_syncArm (m : Bytes4) (s : State) :
    exec (.syncArm m) s =
      .next { s with
        sc_magic := m, sc_win := [], sc_armed := true, sc_matched := false, responses := Spec.ok s } :=
  accepted_eq_next { s with sc_magic := m, sc_win := [], sc_armed := true, sc_matched := false }

/- The three outcomes of a feed (R223). -/

theorem exec_syncFeed_of_unarmed {s : State} (harmed : s.sc_armed = false) (b : Byte) :
    exec (.syncFeed b) s = .next (Spec.refused s) := by
  change execSyncFeed b s = _
  rw [execSyncFeed, if_neg (ne_true_of_eq_false harmed), refuse_eq_next]

theorem exec_syncFeed_of_match {s : State} (harmed : s.sc_armed = true) {b : Byte}
    (hmagic : lastN 4 (s.sc_win ++ [b]) = magicBytes s.sc_magic) :
    exec (.syncFeed b) s =
      .next { s with
        sc_win := [], sc_armed := false, sc_matched := true, responses := s.responses ++ [⟨.ok, [1]⟩] } := by
  have hflag := (scanStep_snd s.sc_win s.sc_magic b).mpr hmagic
  change execSyncFeed b s = _
  rw [execSyncFeed, if_pos harmed, if_pos hflag, answer_eq_next]

theorem exec_syncFeed_of_no_match {s : State} (harmed : s.sc_armed = true) {b : Byte}
    (hmagic : lastN 4 (s.sc_win ++ [b]) ≠ magicBytes s.sc_magic) :
    exec (.syncFeed b) s =
      .next { s with
        sc_win := lastN 4 (s.sc_win ++ [b]), sc_matched := false,
        responses := s.responses ++ [⟨.ok, [0]⟩] } := by
  have hflag := mt (scanStep_snd s.sc_win s.sc_magic b).mp hmagic
  change execSyncFeed b s = _
  rw [execSyncFeed, if_pos harmed, if_neg hflag, answer_eq_next, scanStep_fst]

/-- Settles O10: the scanner's flag is the comparison the statement splits on. -/
theorem syncCommands : Obligations.SyncCommands := by
  intro s
  refine ⟨fun m => ⟨encode_syncArm m, exec_syncArm m s⟩, encode_syncFeed, exec_syncFeed_of_unarmed,
    fun harmed b => ?armed⟩
  case armed =>
    split_ifs with hmagic
    · exact exec_syncFeed_of_match harmed hmagic
    · exact exec_syncFeed_of_no_match harmed hmagic

end Sys2Proof.Laws

/-!
The shared procedures of the sender (43_sender.md R246, R251; 60_exceptions.md R403, R413) followed by the OK response:
each is the record of the statements, so that a command's proof names the procedure it ends in.
-/

namespace Sys2Proof.Laws

open Sys2Proof Sys2Proof.Machine

theorem stopOutputs_eq_stopped (s : State) : stopOutputs s.timer_kind = Spec.stopped s :=
  stopOutputs_eq s.timer_kind

/-- The deadline is stopped (R413). -/
theorem stopTimer_eq (s : State) :
    stopTimer s = { s with timer_kind := .none, outputs := s.outputs ++ Spec.stopped s } := by
  rw [← stopOutputs_eq_stopped]
  rfl

/-- The deadline is stopped once, however often it is asked for (R413). -/
theorem raiseFatal_stopTimer (k : ErrorCode) (s : State) : raiseFatal k (stopTimer s) = raiseFatal k s := by
  simp [raiseFatal_eq, stopTimer, stopOutputs]

/-- A command that raises Fatal still answers OK (R403). -/
theorem accepted_raiseFatal (k : ErrorCode) (s : State) : accepted (raiseFatal k s) = .next (Spec.failed k s) := by
  rw [accepted_eq_next, raiseFatal_eq, stopOutputs_eq_stopped, failedState_eq]
  rfl

theorem accepted_nextBlock (s : State) : accepted (nextBlock s) = .next (Spec.blockAsked s) := by
  rw [accepted_eq_next, nextBlock_eq, Spec.blockAsked]
  split_ifs <;> rfl

theorem accepted_attemptFailed (s : State) : accepted (attemptFailed s) = .next (Spec.attemptLost s) := by
  rw [attemptFailed_eq, Spec.attemptLost]
  split_ifs
  · exact accepted_raiseFatal .retryExhausted s
  · rw [accepted_eq_next, BitVec.ofNat_add, BitVec.ofNat_toNat, BitVec.setWidth_eq]
    rfl

end Sys2Proof.Laws

/-!
The commands that begin a transfer and take the file (43_sender.md R240 to R243, R247; 44_receiver.md R290, R291). Each
is accepted in one state, MODE_DONE in two, and refused in every other (45_control.md R356, R359).
-/

namespace Sys2Proof.Laws

open Sys2Proof Sys2Proof.Machine

/- The state that accepts a command. -/

theorem exec_sStart (blockSize maxAttempts : Half) (s : State) :
    exec (.sStart blockSize maxAttempts) s =
      if s.state = .idle then accepted (senderStart blockSize maxAttempts s) else .next (Spec.refused s) := by
  change execSStart blockSize maxAttempts s = _
  rw [execSStart]
  split
  · exact (if_pos ‹_›).symm
  · exact (if_neg ‹_›).symm

theorem exec_rStart (s : State) :
    exec .rStart s = if s.state = .idle then accepted (receiverStart s) else .next (Spec.refused s) := by
  change execRStart s = _
  rw [execRStart]
  split
  · exact (if_pos ‹_›).symm
  · exact (if_neg ‹_›).symm

theorem exec_sFileData (data : List Byte) (s : State) :
    exec (.sFileData data) s =
      if s.state = .sModeEntered then accepted (senderFileData data s) else .next (Spec.refused s) := by
  change execSFileData data s = _
  rw [execSFileData]
  split
  · exact (if_pos ‹_›).symm
  · exact (if_neg ‹_›).symm

theorem exec_sFileEnd (name : List Byte) (s : State) :
    exec (.sFileEnd name) s =
      if s.state = .sModeEntered then accepted (senderFileEnd name s) else .next (Spec.refused s) := by
  change execSFileEnd name s = _
  rw [execSFileEnd]
  split
  · exact (if_pos ‹_›).symm
  · exact (if_neg ‹_›).symm

theorem exec_sBlockData (data : List Byte) (s : State) :
    exec (.sBlockData data) s =
      if s.state = .sNeedData then accepted (senderBlockData data s) else .next (Spec.refused s) := by
  change execSBlockData data s = _
  rw [execSBlockData]
  split
  · exact (if_pos ‹_›).symm
  · exact (if_neg ‹_›).symm

/- S_START and R_START (R240, R290). -/

/-- The role is set before the operands are judged, so a zero operand ends in S_FAILED. -/
theorem senderStart_of_zero {blockSize maxAttempts : Half} (h : blockSize = 0 ∨ maxAttempts = 0) (s : State) :
    senderStart blockSize maxAttempts s = raiseFatal .configError { s with role := .sender } := by
  rw [senderStart, if_pos h]

theorem senderStart_of_nonzero {blockSize maxAttempts : Half} (hblock : blockSize ≠ 0) (hatt : maxAttempts ≠ 0)
    (s : State) :
    senderStart blockSize maxAttempts s =
      { s with
        role := .sender, s_block := blockSize, s_maxatt := maxAttempts, s_total := 0, s_fcrc := 0,
        state := .sModePending, outputs := s.outputs ++ [.modeReq .sender] } := by
  rw [senderStart, if_neg (not_or.mpr ⟨hblock, hatt⟩)]
  rfl

/-- Settles O13: in IDLE each command runs its pseudocode, S_START by its operands; elsewhere both are refused. -/
theorem startCommands : Obligations.StartCommands := by
  intro s blockSize maxAttempts
  refine ⟨rfl, fun hidle hblock hatt => ?nonzero, fun hidle hzero => ?zero, rfl, fun hidle => ?receiver,
    fun hidle => ⟨?senderRefused, ?receiverRefused⟩⟩
  case nonzero => rw [exec_sStart, if_pos hidle, senderStart_of_nonzero hblock hatt, accepted_eq_next]; rfl
  case zero => rw [exec_sStart, if_pos hidle, senderStart_of_zero hzero, accepted_raiseFatal]; rfl
  case receiver => rw [exec_rStart, if_pos hidle, accepted_eq_next]; rfl
  case senderRefused => rw [exec_sStart, if_neg hidle]
  case receiverRefused => rw [exec_rStart, if_neg hidle]

/- MODE_DONE (R241, R291): the operand is judged before the state. -/

theorem exec_modeDone_of_sModePending {s : State} (hs : s.state = .sModePending) {ok : Byte} (hok : ok = 0 ∨ ok = 1) :
    exec (.modeDone ok) s = accepted (senderModeDone ok s) := by
  change execModeDone ok s = _
  rw [execModeDone, if_pos hok, hs]

theorem exec_modeDone_of_rModePending {s : State} (hs : s.state = .rModePending) {ok : Byte} (hok : ok = 0 ∨ ok = 1) :
    exec (.modeDone ok) s = accepted (receiverModeDone ok s) := by
  change execModeDone ok s = _
  rw [execModeDone, if_pos hok, hs]

theorem exec_modeDone_of_bad_operand {ok : Byte} (hzero : ok ≠ 0) (hone : ok ≠ 1) (s : State) :
    exec (.modeDone ok) s = .next (Spec.refused s) := by
  change execModeDone ok s = _
  rw [execModeDone, if_neg (not_or.mpr ⟨hzero, hone⟩), refuse_eq_next]

theorem exec_modeDone_of_not_pending {s : State} (hsender : s.state ≠ .sModePending)
    (hreceiver : s.state ≠ .rModePending) (ok : Byte) : exec (.modeDone ok) s = .next (Spec.refused s) := by
  change execModeDone ok s = _
  rw [execModeDone, ← refuse_eq_next]
  split
  · split
    · exact absurd ‹_› hsender
    · exact absurd ‹_› hreceiver
    · rfl
  · rfl

/-- Settles O14, by the state and then by the operand. -/
theorem modeDoneCommand : Obligations.ModeDoneCommand := by
  intro s
  refine ⟨fun _ => rfl, fun hs => ⟨?entered, ?senderFatal⟩, fun hs => ⟨?syncing, ?receiverFatal⟩,
    fun ok hzero hone => exec_modeDone_of_bad_operand hzero hone s, exec_modeDone_of_not_pending⟩
  case entered => rw [exec_modeDone_of_sModePending hs (.inr rfl), accepted_eq_next]; rfl
  case senderFatal => rw [exec_modeDone_of_sModePending hs (.inl rfl)]; exact accepted_raiseFatal .linkTimeout s
  case syncing => rw [exec_modeDone_of_rModePending hs (.inr rfl), accepted_eq_next]; rfl
  case receiverFatal => rw [exec_modeDone_of_rModePending hs (.inl rfl)]; exact accepted_raiseFatal .linkTimeout s

/- S_FILE_DATA and S_FILE_END (R242, R243). -/

theorem senderFileData_of_fits {s : State} {data : List Byte} (h : s.s_total.toNat + data.length < 2 ^ 64) :
    senderFileData data s =
      { s with s_fcrc := crc data s.s_fcrc, s_total := BitVec.ofNat 64 (s.s_total.toNat + data.length) } := by
  rw [senderFileData, if_neg (Nat.not_le.mpr h)]

theorem senderFileData_of_too_long {s : State} {data : List Byte} (h : 2 ^ 64 ≤ s.s_total.toNat + data.length) :
    senderFileData data s = raiseFatal .configError s := by
  rw [senderFileData, if_pos h]

/-- Settles O15: below 2^64 the sum is the new total, which therefore did not wrap. -/
theorem sFileDataCommand : Obligations.SFileDataCommand := by
  intro s data
  refine ⟨rfl, fun hs hfits => ⟨BitVec.ofNat 64 (s.s_total.toNat + data.length), ?total, ?absorbed⟩,
    fun hs hlong => ?fatal, fun hs => ?refused⟩
  case total => exact (BitVec.toNat_ofNat _ _).trans (Nat.mod_eq_of_lt hfits)
  case absorbed => rw [exec_sFileData, if_pos hs, senderFileData_of_fits hfits, accepted_eq_next]; rfl
  case fatal => rw [exec_sFileData, if_pos hs, senderFileData_of_too_long hlong, accepted_raiseFatal]
  case refused => rw [exec_sFileData, if_neg hs]

theorem senderFileEnd_eq (name : List Byte) (s : State) :
    senderFileEnd name s =
      { s with
        s_name := name, timer_kind := .hsAck, state := .sAwaitHsAck,
        outputs := s.outputs ++ [.tx (encodeHandshake s.params name s.s_total s.s_fcrc), .timerArm .hsAck] } := by
  simp [senderFileEnd, setState, armTimer, emit]

/-- Settles O16: the bytes transmitted are the handshake encoder's, field by field. -/
theorem sFileEndCommand : Obligations.SFileEndCommand := by
  intro s name
  refine ⟨rfl, fun hs => ?sent, fun hs => ?refused⟩
  case sent => rw [exec_sFileEnd, if_pos hs, senderFileEnd_eq, accepted_eq_next]; rfl
  case refused => rw [exec_sFileEnd, if_neg hs]

/- S_BLOCK_DATA (R247). -/

/-- The length field of the frame is that of the data, which is the one asked for. -/
theorem senderBlockData_of_length {s : State} {data : List Byte} (h : data.length = s.s_curlen.toNat) :
    senderBlockData data s =
      { s with
        s_frame := le16 s.s_seq ++ le16 s.s_curlen ++ data ++ le32 (crc data 0), s_att := 1,
        timer_kind := .blockResp, state := .sAwaitResp,
        outputs := s.outputs ++
          [.tx (le16 s.s_seq ++ le16 s.s_curlen ++ data ++ le32 (crc data 0)), .timerArm .blockResp] } := by
  have hlen : len16 data = s.s_curlen := by rw [len16, h, BitVec.ofNat_toNat, BitVec.setWidth_eq]
  rw [senderBlockData, if_neg (not_not_intro h), encodeBlock, hlen]
  simp [setState, armTimer, emit]

theorem senderBlockData_of_wrong_length {s : State} {data : List Byte} (h : data.length ≠ s.s_curlen.toNat) :
    senderBlockData data s = raiseFatal .ioError s := by
  rw [senderBlockData, if_pos h]

/-- Settles O18, by the length of the data. -/
theorem sBlockDataCommand : Obligations.SBlockDataCommand := by
  intro s data
  refine ⟨rfl, fun hs hlen => ?sent, fun hs hlen => ?fatal, fun hs => ?refused⟩
  case sent => rw [exec_sBlockData, if_pos hs, senderBlockData_of_length hlen, accepted_eq_next]; rfl
  case fatal => rw [exec_sBlockData, if_pos hs, senderBlockData_of_wrong_length hlen, accepted_raiseFatal]
  case refused => rw [exec_sBlockData, if_neg hs]

end Sys2Proof.Laws

/-!
The events that the sender waits for (43_sender.md R244, R245, R248 to R253), and the deadlines whose expiry is fatal,
the receiver's included (44_receiver.md R293, R299, R308).
-/

namespace Sys2Proof.Laws

open Sys2Proof Sys2Proof.Machine

theorem encode_evRx (b : Byte) : encode (.evRx b) = [0x50, b] := rfl

/- An event runs the arm of its state (R351, R359). -/

theorem exec_evRx_of_sAwaitHsAck {s : State} (hs : s.state = .sAwaitHsAck) (b : Byte) :
    exec (.evRx b) s = accepted (rxAwaitHsAck b s) :=
  execEvRx_of_arm b (congrArg rxArm hs)

theorem exec_evRx_of_sAwaitResp {s : State} (hs : s.state = .sAwaitResp) (b : Byte) :
    exec (.evRx b) s = accepted (rxAwaitResp b s) :=
  execEvRx_of_arm b (congrArg rxArm hs)

theorem exec_evRx_of_sAwaitFinal {s : State} (hs : s.state = .sAwaitFinal) (b : Byte) :
    exec (.evRx b) s = accepted (rxAwaitFinal b s) :=
  execEvRx_of_arm b (congrArg rxArm hs)

theorem exec_evTimeout_of_sAwaitResp {s : State} (hs : s.state = .sAwaitResp) (htimer : s.timer_kind ≠ .none) :
    exec .evTimeout s = accepted (attemptFailed s) :=
  execEvTimeout_of_arm (congrArg timeoutArm hs) htimer

/-- An expiry whose arm is a fatal entry and nothing else. -/
theorem exec_evTimeout_of_fatal_arm {s : State} {c : StateCode} {k : ErrorCode} (hs : s.state = c)
    (harm : timeoutArm c = some (raiseFatal k)) (htimer : s.timer_kind ≠ .none) :
    exec .evTimeout s = .next (Spec.failed k s) :=
  (execEvTimeout_of_arm ((congrArg timeoutArm hs).trans harm) htimer).trans (accepted_raiseFatal k s)

/- The answer to the handshake (R244), by the class of the byte. -/

theorem rxAwaitHsAck_of_ack {s : State} {b : Byte} (h : tokClass s.params b = .ack) :
    rxAwaitHsAck b s =
      nextBlock
        { s with
          s_seq := 0, s_sent := 0, s_att := 0, timer_kind := .none,
          outputs := s.outputs ++ Spec.stopped s ++ [.tx (encodeSession s.params s.s_total s.s_fcrc)] } := by
  rw [rxAwaitHsAck, h, stopTimer_eq]
  rfl

theorem rxAwaitHsAck_of_nak {s : State} {b : Byte} (h : tokClass s.params b = .nak) :
    rxAwaitHsAck b s = raiseFatal .protocolMismatch s := by
  rw [rxAwaitHsAck, h]

theorem rxAwaitHsAck_of_other {s : State} {b : Byte} (h : tokClass s.params b = .other) : rxAwaitHsAck b s = s := by
  rw [rxAwaitHsAck, h]

/-- Settles O17, by the class of the byte. -/
theorem rxHandshakeAnswer : Obligations.RxHandshakeAnswer := by
  refine ⟨encode_evRx, fun s hs => ⟨?ack, fun hwf => ?nak, fun b hack hnak => ?other⟩⟩
  case ack =>
    have hclass := (tokClass_eq_ack_iff s.params _).mpr rfl
    rw [exec_evRx_of_sAwaitHsAck hs, rxAwaitHsAck_of_ack hclass, accepted_nextBlock]
    rfl
  case nak =>
    obtain ⟨-, hne, -⟩ := hwf
    have hclass := (tokClass_eq_nak_iff hne _).mpr rfl
    rw [exec_evRx_of_sAwaitHsAck hs, rxAwaitHsAck_of_nak hclass, accepted_raiseFatal]
  case other =>
    have hclass := (tokClass_eq_other_iff s.params b).mpr ⟨hack, hnak⟩
    rw [exec_evRx_of_sAwaitHsAck hs, rxAwaitHsAck_of_other hclass, accepted_eq_next]

/- The answer to a block (R248, R249), by the class of the byte and the policy. -/

theorem rxAwaitResp_of_ack {s : State} {b : Byte} (h : tokClass s.params b = .ack) :
    rxAwaitResp b s =
      nextBlock
        { s with
          s_sent := s.s_sent + s.s_curlen.setWidth 64, s_seq := s.s_seq + 1, s_att := 0, timer_kind := .none,
          outputs := s.outputs ++ Spec.stopped s } := by
  rw [rxAwaitResp, h]
  change blockAcked s = _
  rw [blockAcked, stopTimer_eq]

theorem rxAwaitResp_of_nak {s : State} {b : Byte} (h : tokClass s.params b = .nak) :
    rxAwaitResp b s = attemptFailed s := by
  rw [rxAwaitResp, h]

theorem rxAwaitResp_of_other_asNak {s : State} {b : Byte} (h : tokClass s.params b = .other)
    (hpolicy : s.params.blockWaitOther = .asNak) : rxAwaitResp b s = attemptFailed s := by
  rw [rxAwaitResp, h, hpolicy]

theorem rxAwaitResp_of_other_ignore {s : State} {b : Byte} (h : tokClass s.params b = .other)
    (hpolicy : s.params.blockWaitOther = .ignore) : rxAwaitResp b s = s := by
  rw [rxAwaitResp, h, hpolicy]

/-- The acknowledged bytes stay within the total, so their count does not wrap. -/
theorem toNat_sent_add_curlen {s : State} (h : s.s_sent.toNat + s.s_curlen.toNat ≤ s.s_total.toNat) :
    (s.s_sent + s.s_curlen.setWidth 64).toNat = s.s_sent.toNat + s.s_curlen.toNat := by
  have hcurlen : (s.s_curlen.setWidth 64).toNat = s.s_curlen.toNat := BitVec.toNat_setWidth_of_le (by decide)
  rw [BitVec.toNat_add_of_lt (by rw [hcurlen]; exact h.trans_lt s.s_total.isLt), hcurlen]

/-- Settles O19: the acknowledged count does not wrap, the sequence number does. -/
theorem rxBlockAck : Obligations.RxBlockAck := by
  refine ⟨encode_evRx, fun s hs hbound =>
    ⟨s.s_sent + s.s_curlen.setWidth 64, s.s_seq + 1, toNat_sent_add_curlen hbound, BitVec.toNat_add _ _, ?acked⟩⟩
  case acked =>
    have hclass := (tokClass_eq_ack_iff s.params _).mpr rfl
    rw [exec_evRx_of_sAwaitResp hs, rxAwaitResp_of_ack hclass, accepted_nextBlock]

/-- Settles O20: every cause but the ignored byte runs the one procedure of a failed attempt. -/
theorem blockAttemptFails : Obligations.BlockAttemptFails := by
  refine ⟨encode_evRx, rfl, fun s hs => ⟨fun hwf => ?nak, fun b hack hnak hpolicy => ?asNak,
    fun b hack hnak hpolicy => ?ignored, fun htimer => ?timeout⟩⟩
  case nak =>
    obtain ⟨-, hne, -⟩ := hwf
    have hclass := (tokClass_eq_nak_iff hne _).mpr rfl
    rw [exec_evRx_of_sAwaitResp hs, rxAwaitResp_of_nak hclass, accepted_attemptFailed]
  case asNak =>
    have hclass := (tokClass_eq_other_iff s.params b).mpr ⟨hack, hnak⟩
    rw [exec_evRx_of_sAwaitResp hs, rxAwaitResp_of_other_asNak hclass hpolicy, accepted_attemptFailed]
  case ignored =>
    have hclass := (tokClass_eq_other_iff s.params b).mpr ⟨hack, hnak⟩
    rw [exec_evRx_of_sAwaitResp hs, rxAwaitResp_of_other_ignore hclass hpolicy, accepted_eq_next]
  case timeout => rw [exec_evTimeout_of_sAwaitResp hs (htimer.trans_ne nofun), accepted_attemptFailed]

/- The final status token (R252): the first byte is kept, the second ends the transfer. -/

theorem rxAwaitFinal_of_first {s : State} (h : s.s_fin = []) (b : Byte) :
    rxAwaitFinal b s = { s with s_fin := [b] } := by
  simp [rxAwaitFinal, h]

theorem rxAwaitFinal_of_okToken {s : State} {a b : Byte} (h : s.s_fin = [a])
    (hok : (⟨a, b⟩ : Bytes2) = s.params.okToken) :
    rxAwaitFinal b s =
      { s with
        s_fin := [a, b], timer_kind := .none, state := .sDone,
        outputs := s.outputs ++ Spec.stopped s ++ [.endTransfer .none] } := by
  have hclass : finClass s.params [a, b] = .ok := (finClass_eq_ok_iff s.params ⟨a, b⟩).mpr hok
  simp [rxAwaitFinal, h, hclass, stopTimer_eq, emit, setState, Spec.stopped]

theorem rxAwaitFinal_of_other_token {s : State} {a b : Byte} (h : s.s_fin = [a])
    (hok : (⟨a, b⟩ : Bytes2) ≠ s.params.okToken) :
    rxAwaitFinal b s = raiseFatal .integrityFile { s with s_fin := [a, b] } := by
  have hclass : finClass s.params [a, b] ≠ .ok := mt (finClass_eq_ok_iff s.params ⟨a, b⟩).mp hok
  simp only [rxAwaitFinal, h, List.cons_append, List.nil_append, stopTimer_s_fin, stopTimer_params]
  rw [if_pos (show [a, b].length = 2 from rfl)]
  split
  · exact absurd ‹_› hclass
  · exact raiseFatal_stopTimer _ _
  · exact raiseFatal_stopTimer _ _

/-- Settles O21, by the number of bytes kept and then by the token they make. -/
theorem rxFinalToken : Obligations.RxFinalToken := by
  refine ⟨encode_evRx, fun s b hs => ⟨fun hfin => ?first, fun a hfin => ?second⟩⟩
  case first => rw [exec_evRx_of_sAwaitFinal hs, rxAwaitFinal_of_first hfin, accepted_eq_next]; rfl
  case second =>
    rw [exec_evRx_of_sAwaitFinal hs]
    split_ifs with hok
    · rw [rxAwaitFinal_of_okToken hfin hok, accepted_eq_next]
      rfl
    · rw [rxAwaitFinal_of_other_token hfin hok, accepted_raiseFatal]

/- The expiries that are fatal (R245, R253, R293, R299, R308). -/

theorem timeoutArm_of_read {c : StateCode}
    (h : c = .rReadHsFixed ∨ c = .rReadHsName ∨ c = .rReadSess ∨ c = .rBlkHdr ∨ c = .rBlkPayload ∨ c = .rBlkCrc) :
    timeoutArm c = some (raiseFatal .linkTimeout) := by
  rcases h with rfl | rfl | rfl | rfl | rfl | rfl <;> rfl

/-- Settles O33: in each of these states the arm is a fatal entry and nothing else. -/
theorem timeoutIsFatal : Obligations.TimeoutIsFatal := by
  refine ⟨rfl, fun s => ⟨fun hs htimer => ?hsAck, fun hs htimer => ?final, fun hs htimer => ?hsSync,
    fun hs htimer => ?sessSync, fun hread htimer => ?read⟩⟩
  case hsAck => exact exec_evTimeout_of_fatal_arm hs rfl (htimer.trans_ne nofun)
  case final => exact exec_evTimeout_of_fatal_arm hs rfl (htimer.trans_ne nofun)
  case hsSync => exact exec_evTimeout_of_fatal_arm hs rfl (htimer.trans_ne nofun)
  case sessSync => exact exec_evTimeout_of_fatal_arm hs rfl (htimer.trans_ne nofun)
  case read => exact exec_evTimeout_of_fatal_arm rfl (timeoutArm_of_read hread) (htimer.trans_ne nofun)

end Sys2Proof.Laws

/-!
The shared procedures of the receiver (44_receiver.md R296, R301, R307, R317) followed by the OK response: each is the
record of the statements, so that an event's proof names the procedure it ends in.
-/

namespace Sys2Proof.Laws

open Sys2Proof Sys2Proof.Machine

theorem accepted_startRead (c : StateCode) (s : State) :
    accepted (startRead c s) = .next (Spec.answered (Spec.reading c s)) := by
  rw [accepted_eq_next, startRead_eq, stopOutputs_eq_stopped]
  rfl

theorem accepted_hsComplete (s : State) : accepted (hsComplete s) = .next (Spec.handshakeDone s) := by
  rw [hsComplete_eq, Spec.handshakeDone]
  by_cases hversion : s.r_version = s.params.protoVersion
  · rw [if_pos hversion, if_pos hversion, accepted_eq_next, ← List.append_assoc]
    rfl
  · rw [if_neg hversion, if_neg hversion]
    exact accepted_raiseFatal .protocolMismatch s

theorem accepted_finalCheck (s : State) : accepted (finalCheck s) = .next (Spec.checked s) := by
  rw [finalCheck_eq, Spec.checked, stopOutputs_eq_stopped, accepted_eq_next, ← List.append_assoc, ← List.append_assoc]
  split_ifs <;> rfl

theorem accepted_blockLoop (s : State) : accepted (blockLoop s) = .next (Spec.looped s) := by
  rw [blockLoop_eq, Spec.looped]
  split_ifs
  · exact accepted_finalCheck s
  · exact accepted_startRead .rBlkHdr s

end Sys2Proof.Laws

/-!
The bytes that the receiver takes (44_receiver.md R292, R294, R295, R297, R300, R302 to R306). For each state: what its
arm does with a byte that leaves the read incomplete, and with the byte that completes it.
-/

namespace Sys2Proof.Laws

open Sys2Proof Sys2Proof.Machine

/-- EV_RX runs the arm that the table of R359 gives the state. -/
theorem exec_evRx_of_rxArm {s : State} {c : StateCode} {arm : Byte → State → State} (hs : s.state = c)
    (harm : rxArm c = some arm) (b : Byte) : exec (.evRx b) s = accepted (arm b s) :=
  execEvRx_of_arm b ((congrArg rxArm hs).trans harm)

/- The exact-count reads into `r_buf` (R317): a byte that leaves one incomplete, and when a byte completes it. -/

/-- A byte that is only buffered changes nothing else. -/
theorem exec_evRx_of_buffered {s : State} {c : StateCode} {arm : Byte → State → State} {b : Byte} (hs : s.state = c)
    (harm : rxArm c = some arm) (hbuffered : arm b s = { s with r_buf := s.r_buf ++ [b] }) :
    exec (.evRx b) s = .next { s with r_buf := s.r_buf ++ [b], responses := Spec.ok s } := by
  rw [exec_evRx_of_rxArm hs harm, hbuffered]
  exact accepted_eq_next _

theorem length_concat_eq_iff (buf : List Byte) (b : Byte) (n : Nat) :
    (buf ++ [b]).length = n + 1 ↔ buf.length = n := by
  simp

/- The syncs (R292, R297): the scanner's flag says whether the window is the magic. -/

theorem rxSyncHs_eq (b : Byte) (s : State) :
    rxSyncHs b s =
      if lastN 4 (s.e_win ++ [b]) = magicBytes s.params.hsMagic then startRead .rReadHsFixed { s with e_win := [] }
      else { s with e_win := lastN 4 (s.e_win ++ [b]) } := by
  simp only [rxSyncHs, scanStep_snd, scanStep_fst]

theorem rxSyncSess_eq (b : Byte) (s : State) :
    rxSyncSess b s =
      if lastN 4 (s.e_win ++ [b]) = magicBytes s.params.sessMagic then startRead .rReadSess { s with e_win := [] }
      else { s with e_win := lastN 4 (s.e_win ++ [b]) } := by
  simp only [rxSyncSess, scanStep_snd, scanStep_fst]

/-- Settles O22, by the sync and by whether the byte completes its magic. -/
theorem rxSyncByte : Obligations.RxSyncByte := by
  refine ⟨encode_evRx, fun s b => ⟨fun hs => ?handshake, fun hs => ?session⟩⟩
  case handshake =>
    rw [exec_evRx_of_rxArm hs rfl, rxSyncHs_eq]
    split_ifs
    · exact accepted_startRead _ _
    · exact accepted_eq_next _
  case session =>
    rw [exec_evRx_of_rxArm hs rfl, rxSyncSess_eq]
    split_ifs
    · exact accepted_startRead _ _
    · exact accepted_eq_next _

/- The fixed bytes of the handshake (R294). -/

theorem rxReadHsFixed_of_incomplete {s : State} (h : s.r_buf.length ≠ 14) (b : Byte) :
    rxReadHsFixed b s = { s with r_buf := s.r_buf ++ [b] } :=
  if_neg (mt (length_concat_eq_iff s.r_buf b 14).mp h)

/-- The fields are read back as the sender wrote them. -/
theorem rxReadHsFixed_of_complete {s : State} {b v : Byte} {n : Half} {T : Dword} {C : Word}
    (h : s.r_buf ++ [b] = [v] ++ le16 n ++ le64 T ++ le32 C) :
    rxReadHsFixed b s =
      if n = 0 then
        hsComplete
          { s with
            r_buf := s.r_buf ++ [b], r_version := v, r_name_len := n, r_total := T, r_fcrc := C, r_name := [] }
      else
        startRead .rReadHsName
          { s with
            r_buf := s.r_buf ++ [b], r_version := v, r_name_len := n, r_total := T, r_fcrc := C, r_name := [] } := by
  have hversion : byteAt (s.r_buf ++ [b]) 0 = v := by rw [h]; rfl
  have hnameLen : rdLe16 (s.r_buf ++ [b]) 1 = n := by rw [h]; exact rdLe16_le16 n (le64 T ++ le32 C)
  have htotal : rdLe64 (s.r_buf ++ [b]) 3 = T := by rw [h]; exact rdLe64_le64 T (le32 C)
  have hcrc : rdLe32 (s.r_buf ++ [b]) 11 = C := by rw [h]; exact rdLe32_le32 C []
  have hlength : (s.r_buf ++ [b]).length = 15 := by rw [h]; rfl
  simp only [rxReadHsFixed, hversion, hnameLen, htotal, hcrc]
  exact if_pos hlength

/-- Settles O23, by the length of the buffer and then by the length of the name. -/
theorem rxHandshakeFixed : Obligations.RxHandshakeFixed := by
  refine ⟨encode_evRx, fun s b hs => ⟨fun hlen => ?buffered, fun v n T C hfields => ?latched⟩⟩
  case buffered => exact exec_evRx_of_buffered hs rfl (rxReadHsFixed_of_incomplete hlen b)
  case latched =>
    rw [exec_evRx_of_rxArm hs rfl, rxReadHsFixed_of_complete hfields]
    split_ifs
    · exact accepted_hsComplete _
    · exact accepted_startRead _ _

/- The name of the handshake (R295). -/

theorem rxReadHsName_eq (b : Byte) (s : State) :
    rxReadHsName b s =
      if s.r_name.length + 1 = s.r_name_len.toNat then hsComplete { s with r_name := s.r_name ++ [b] }
      else { s with r_name := s.r_name ++ [b] } := by
  simp only [rxReadHsName, List.length_append, List.length_singleton]

/-- Settles O24, by whether the name is complete. -/
theorem rxHandshakeName : Obligations.RxHandshakeName := by
  refine ⟨encode_evRx, fun s b hs => ?_⟩
  rw [exec_evRx_of_rxArm hs rfl, rxReadHsName_eq]
  split_ifs
  · exact accepted_hsComplete _
  · exact accepted_eq_next _

/- The session frame (R300, R298). -/

theorem rxReadSess_of_incomplete {s : State} (h : s.r_buf.length ≠ 12) (b : Byte) :
    rxReadSess b s = { s with r_buf := s.r_buf ++ [b] } :=
  if_neg (mt (length_concat_eq_iff s.r_buf b 12).mp h)

theorem rxReadSess_of_complete {s : State} {b v : Byte} {T : Dword} {C : Word}
    (h : s.r_buf ++ [b] = [v] ++ le64 T ++ le32 C) :
    rxReadSess b s =
      if v = s.r_version ∧ T = s.r_total ∧ C = s.r_fcrc then
        blockLoop
          { s with
            r_buf := s.r_buf ++ [b], r_exp_seq := 0, r_count := 0, r_run_crc := 0, r_verdict := .none,
            temp_open := if s.params.openTempAt = .sessionValidated then true else s.temp_open,
            outputs := s.outputs ++
              (if s.params.openTempAt = .sessionValidated then [.openTemp s.r_name] else []) }
      else raiseFatal .protocolMismatch { s with r_buf := s.r_buf ++ [b] } := by
  have hversion : byteAt (s.r_buf ++ [b]) 0 = v := by rw [h]; rfl
  have htotal : rdLe64 (s.r_buf ++ [b]) 1 = T := by rw [h]; exact rdLe64_le64 T (le32 C)
  have hcrc : rdLe32 (s.r_buf ++ [b]) 9 = C := by rw [h]; exact rdLe32_le32 C []
  have hlength : (s.r_buf ++ [b]).length = 13 := by rw [h]; rfl
  simp only [rxReadSess, hversion, htotal, hcrc, ne_eq, ← not_and_or, ite_not]
  rw [if_pos hlength]
  refine if_congr Iff.rfl ?_ rfl
  cases s.params.openTempAt <;> simp [openTemp_eq]

/-- Settles O25, by the length of the buffer and then by the agreement of the two frames. -/
theorem rxSession : Obligations.RxSession := by
  refine ⟨encode_evRx, fun s b hs => ⟨fun hlen => ?buffered, fun v T C hfields => ?compared⟩⟩
  case buffered => exact exec_evRx_of_buffered hs rfl (rxReadSess_of_incomplete hlen b)
  case compared =>
    rw [exec_evRx_of_rxArm hs rfl, rxReadSess_of_complete hfields]
    by_cases hagree : v = s.r_version ∧ T = s.r_total ∧ C = s.r_fcrc
    · rw [if_pos hagree, if_pos hagree]
      exact accepted_blockLoop _
    · rw [if_neg hagree, if_neg hagree]
      exact accepted_raiseFatal _ _

/- The block header (R302). -/

theorem rxBlkHdr_of_incomplete {s : State} (h : s.r_buf.length ≠ 3) (b : Byte) :
    rxBlkHdr b s = { s with r_buf := s.r_buf ++ [b] } :=
  if_neg (mt (length_concat_eq_iff s.r_buf b 3).mp h)

theorem rxBlkHdr_of_complete {s : State} {b : Byte} {q n : Half} (h : s.r_buf ++ [b] = le16 q ++ le16 n) :
    rxBlkHdr b s =
      startRead (if n = 0 then .rBlkCrc else .rBlkPayload)
        { s with r_buf := s.r_buf ++ [b], r_blk_seq := q, r_blk_len := n, r_payload := [] } := by
  have hseq : rdLe16 (s.r_buf ++ [b]) 0 = q := by rw [h]; exact rdLe16_le16 q (le16 n)
  have hlen : rdLe16 (s.r_buf ++ [b]) 2 = n := by rw [h]; exact rdLe16_le16 n []
  have hlength : (s.r_buf ++ [b]).length = 4 := by rw [h]; rfl
  simp only [rxBlkHdr, hseq, hlen]
  rw [if_pos hlength]
  split_ifs <;> rfl

/-- Settles O26, by the length of the buffer; an empty block has no payload to read. -/
theorem rxBlockHeader : Obligations.RxBlockHeader := by
  refine ⟨encode_evRx, fun s b hs => ⟨fun hlen => ?buffered, fun q n hfields => ?latched⟩⟩
  case buffered => exact exec_evRx_of_buffered hs rfl (rxBlkHdr_of_incomplete hlen b)
  case latched =>
    rw [exec_evRx_of_rxArm hs rfl, rxBlkHdr_of_complete hfields]
    exact accepted_startRead _ _

/- The payload (R303). -/

theorem rxBlkPayload_eq (b : Byte) (s : State) :
    rxBlkPayload b s =
      if s.r_payload.length + 1 = s.r_blk_len.toNat then startRead .rBlkCrc { s with r_payload := s.r_payload ++ [b] }
      else { s with r_payload := s.r_payload ++ [b] } := by
  simp only [rxBlkPayload, List.length_append, List.length_singleton]

/-- Settles O27, by whether the payload is complete. -/
theorem rxBlockPayload : Obligations.RxBlockPayload := by
  refine ⟨encode_evRx, fun s b hs => ?_⟩
  rw [exec_evRx_of_rxArm hs rfl, rxBlkPayload_eq]
  split_ifs
  · exact accepted_startRead _ _
  · exact accepted_eq_next _

/- The decision on a block (R304 to R306). -/

theorem rxBlkCrc_of_incomplete {s : State} (h : s.r_buf.length ≠ 3) (b : Byte) :
    rxBlkCrc b s = { s with r_buf := s.r_buf ++ [b] } :=
  if_neg (mt (length_concat_eq_iff s.r_buf b 3).mp h)

/-- The verdict on a block that fails a check (R63). -/
theorem blockVerdict_of_rejected {p q : Prop} [Decidable p] [Decidable q] (h : ¬ (p ∧ q)) :
    blockVerdict (decide p) (decide q) = if ¬ p ∧ ¬ q then .badBoth else if ¬ p then .badSeq else .badCrc := by
  by_cases hp : p <;> by_cases hq : q
  · exact absurd ⟨hp, hq⟩ h
  all_goals simp [hp, hq, blockVerdict]

theorem rxBlkCrc_of_complete {s : State} {b : Byte} {C : Word} (h : s.r_buf ++ [b] = le32 C) :
    rxBlkCrc b s =
      if s.r_blk_seq = s.r_exp_seq ∧ crc s.r_payload 0 = C then acceptBlock { s with r_buf := s.r_buf ++ [b] }
      else
        rejectBlock
          { s with
            r_buf := s.r_buf ++ [b],
            r_verdict := blockVerdict (decide (s.r_blk_seq = s.r_exp_seq)) (decide (crc s.r_payload 0 = C)) } := by
  have hcrc : rdLe32 (s.r_buf ++ [b]) 0 = C := by rw [h]; exact rdLe32_le32 C []
  have hlength : (s.r_buf ++ [b]).length = 4 := by rw [h]; rfl
  simp only [rxBlkCrc, hcrc, Bool.and_eq_true, beq_iff_eq]
  exact if_pos hlength

/-- Settles O28, by the length of the buffer and then by the two checks; the sequence number wraps. -/
theorem rxBlockDecision : Obligations.RxBlockDecision := by
  refine ⟨encode_evRx, fun s b hs => ⟨fun hlen => ?buffered, fun C hfield =>
    ⟨fun hseq hcrc => ⟨s.r_exp_seq + 1, BitVec.toNat_add _ _, ?accepted⟩, fun hbad => ?rejected⟩⟩⟩
  case buffered => exact exec_evRx_of_buffered hs rfl (rxBlkCrc_of_incomplete hlen b)
  case accepted =>
    rw [exec_evRx_of_rxArm hs rfl, rxBlkCrc_of_complete hfield, if_pos ⟨hseq, hcrc⟩, acceptBlock_eq]
    exact accepted_blockLoop _
  case rejected =>
    rw [exec_evRx_of_rxArm hs rfl, rxBlkCrc_of_complete hfield, if_neg hbad, blockVerdict_of_rejected hbad,
      rejectBlock_eq]
    exact accepted_blockLoop _

end Sys2Proof.Laws

/-!
Control (45_control.md): the standalone units as a machine of their own inside the engine (R350), the aborts of the host
(R354, R355) and the RESET command (R353).
-/

namespace Sys2Proof.Laws

open Sys2Proof Sys2Proof.Machine

/- The standalone units (R350): all that their commands read is the parameters and these registers (10_state.md R64,
R65). -/

/-- The registers of the standalone units. -/
structure UnitRegs where
  crc_unit : Word
  sc_magic : Bytes4
  sc_win : List Byte
  sc_armed : Bool
  sc_matched : Bool

/-- The unit registers that an engine's state holds. -/
def unitRegs (s : State) : UnitRegs :=
  { crc_unit := s.crc_unit, sc_magic := s.sc_magic, sc_win := s.sc_win, sc_armed := s.sc_armed,
    sc_matched := s.sc_matched }

/-- The state after a unit command that left the registers at `u` and responded `r`; a refusal also sets the sticky
flag (R356). -/
def unitStep (u : UnitRegs) (refused : Bool) (r : Response) (s : State) : State :=
  { s with
    illegal := refused || s.illegal, crc_unit := u.crc_unit, sc_magic := u.sc_magic, sc_win := u.sc_win,
    sc_armed := u.sc_armed, sc_matched := u.sc_matched, responses := s.responses ++ [r] }

/-- The registers written, the refusal and the response are the same from both states. -/
def SameUnitStep (i : Instr) (s s' : State) : Prop :=
  ∃ u refused r, exec i s = .next (unitStep u refused r s) ∧ exec i s' = .next (unitStep u refused r s')

theorem SameUnitStep.of_response {i : Instr} {s s' : State} {r : Response} (hregs : unitRegs s' = unitRegs s)
    (hs : exec i s = .next { s with responses := s.responses ++ [r] })
    (hs' : exec i s' = .next { s' with responses := s'.responses ++ [r] }) : SameUnitStep i s s' := by
  exact ⟨unitRegs s, false, r, hs, hregs ▸ hs'⟩

/-- A feed (R223) is decided by whether the unit is armed, its window and its magic. -/
theorem sameUnitStep_syncFeed {s s' : State} (hregs : unitRegs s' = unitRegs s) (b : Byte) :
    SameUnitStep (.syncFeed b) s s' := by
  obtain ⟨-, hmagic, hwin, harmed, -⟩ := UnitRegs.mk.inj hregs
  cases h : s.sc_armed with
  | false =>
    exact ⟨unitRegs s, true, ⟨.rejected, []⟩, exec_syncFeed_of_unarmed h b,
      hregs ▸ exec_syncFeed_of_unarmed (harmed.trans h) b⟩
  | true =>
    have h' : s'.sc_armed = true := harmed.trans h
    by_cases hmatch : lastN 4 (s.sc_win ++ [b]) = magicBytes s.sc_magic
    · have hmatch' : lastN 4 (s'.sc_win ++ [b]) = magicBytes s'.sc_magic := by rwa [hwin, hmagic]
      exact ⟨{ unitRegs s with sc_win := [], sc_armed := false, sc_matched := true }, false, ⟨.ok, [1]⟩,
        exec_syncFeed_of_match h hmatch, hregs ▸ exec_syncFeed_of_match h' hmatch'⟩
    · have hmatch' : lastN 4 (s'.sc_win ++ [b]) ≠ magicBytes s'.sc_magic := by rwa [hwin, hmagic]
      refine ⟨{ unitRegs s with sc_win := lastN 4 (s.sc_win ++ [b]), sc_matched := false }, false, ⟨.ok, [0]⟩,
        exec_syncFeed_of_no_match h hmatch, ?_⟩
      rw [← hregs, ← hwin]
      exact exec_syncFeed_of_no_match h' hmatch'

/-- A unit command takes the same step from any two states that agree on the parameters and the unit registers. -/
theorem sameUnitStep_of_isStandalone {i : Instr} (hi : isStandalone i = true) {s s' : State}
    (hparams : s'.params = s.params) (hregs : unitRegs s' = unitRegs s) : SameUnitStep i s s' := by
  have hcrc : s'.crc_unit = s.crc_unit := congrArg UnitRegs.crc_unit hregs
  cases i with
  | crcInit seed =>
    exact ⟨{ unitRegs s with crc_unit := seed }, false, ⟨.ok, []⟩, exec_crcInit seed s, hregs ▸ exec_crcInit seed s'⟩
  | crcFeed data =>
    refine ⟨{ unitRegs s with crc_unit := crc data s.crc_unit }, false, ⟨.ok, []⟩, exec_crcFeed data s, ?_⟩
    rw [← hregs, ← hcrc]
    exact exec_crcFeed data s'
  | syncArm m =>
    exact ⟨{ unitRegs s with sc_magic := m, sc_win := [], sc_armed := true, sc_matched := false }, false, ⟨.ok, []⟩,
      exec_syncArm m s, hregs ▸ exec_syncArm m s'⟩
  | syncFeed b => exact sameUnitStep_syncFeed hregs b
  | crcRead => exact .of_response hregs (exec_crcRead s) (hcrc ▸ exec_crcRead s')
  | encHs total fcrc name =>
    exact .of_response hregs (exec_encHs total fcrc name s) (hparams ▸ exec_encHs total fcrc name s')
  | decHs x => exact .of_response hregs (exec_decHs x s) (hparams ▸ exec_decHs x s')
  | encSess total fcrc => exact .of_response hregs (exec_encSess total fcrc s) (hparams ▸ exec_encSess total fcrc s')
  | decSess x => exact .of_response hregs (exec_decSess x s) (hparams ▸ exec_decSess x s')
  | encBlk seq bcrc payload =>
    exact .of_response hregs (exec_encBlk seq bcrc payload s) (exec_encBlk seq bcrc payload s')
  | decBlk x => exact .of_response hregs (exec_decBlk x s) (exec_decBlk x s')
  | tokClass b => exact .of_response hregs (exec_tokClass b s) (hparams ▸ exec_tokClass b s')
  | finClass b0 b1 => exact .of_response hregs (exec_finClass b0 b1 s) (hparams ▸ exec_finClass b0 b1 s')
  | _ => nomatch hi

/-- Settles O12: a step by `unitStep` writes the unit fields alone, and the two states take it with the same registers
and response. -/
theorem standaloneUnitsAreIsolated : Obligations.StandaloneUnitsAreIsolated := by
  intro i hi s
  constructor
  case left =>
    obtain ⟨u, refused, r, hstep, -⟩ := sameUnitStep_of_isStandalone (s := s) hi rfl rfl
    exact ⟨unitStep u refused r s, hstep, rfl⟩
  case right =>
    intro s' t t' hparams hcrc hmagic hwin harmed hmatched ht ht'
    have hregs : unitRegs s' = unitRegs s := by
      rw [unitRegs, hcrc, hmagic, hwin, harmed, hmatched, unitRegs]
    obtain ⟨u, refused, r, hstep, hstep'⟩ := sameUnitStep_of_isStandalone hi hparams hregs
    obtain rfl := Host.Outcome.next.inj (hstep.symm.trans ht)
    obtain rfl := Host.Outcome.next.inj (hstep'.symm.trans ht')
    exact ⟨rfl, rfl, rfl, rfl, rfl, List.drop_left.trans List.drop_left.symm⟩

/- The aborts of the host (R354, R355). -/

theorem abortEnabled_iff (c : StateCode) : abortEnabled c = true ↔ c ≠ .idle ∧ stateKind c ≠ .terminal := by
  simp [abortEnabled, isTerminal]

theorem notAccepted_eq_next (s : State) : notAccepted s = .next (Spec.notTaken s) := rfl

theorem exec_evIoError (s : State) :
    exec .evIoError s =
      if s.state ≠ .idle ∧ stateKind s.state ≠ .terminal then .next (Spec.failed .ioError s)
      else .next (Spec.notTaken s) := by
  change execEvIoError s = _
  simp only [execEvIoError, abortEnabled_iff, accepted_raiseFatal, notAccepted_eq_next]

theorem exec_evAbort (s : State) :
    exec .evAbort s =
      if s.state ≠ .idle ∧ stateKind s.state ≠ .terminal then .next (Spec.failed .interrupted s)
      else .next (Spec.notTaken s) := by
  change execEvAbort s = _
  simp only [execEvAbort, abortEnabled_iff, accepted_raiseFatal, notAccepted_eq_next]

/-- Settles O34: both events are taken on one condition, which the statement splits on. -/
theorem hostAborts : Obligations.HostAborts := by
  refine ⟨rfl, rfl, fun s => ⟨fun hidle hterminal => ?taken, fun hresting => ?notTaken⟩⟩
  case taken =>
    have henabled := And.intro hidle hterminal
    exact ⟨(exec_evIoError s).trans (if_pos henabled), (exec_evAbort s).trans (if_pos henabled)⟩
  case notTaken =>
    have hdisabled : ¬ (s.state ≠ .idle ∧ stateKind s.state ≠ .terminal) := by
      rwa [← not_or, not_not]
    exact ⟨(exec_evIoError s).trans (if_neg hdisabled), (exec_evAbort s).trans (if_neg hdisabled)⟩

/- RESET (R353). -/

theorem exec_reset (s : State) :
    exec .reset s =
      .next { State.reset with
        params := s.params, cmd_port := s.cmd_port, outputs := s.outputs ++ Spec.stopped s,
        responses := Spec.ok s } := by
  rw [← stopOutputs_eq_stopped]
  exact accepted_eq_next (resetFields s)

/-- Settles O40: the encoding, and the reset fields followed by the OK response. -/
theorem resetCommand : Obligations.ResetCommand := ⟨rfl, exec_reset⟩

end Sys2Proof.Laws

/-!
Which port events are taken (60_exceptions.md R411, R414; 45_control.md R351): an event that is not enabled answers
NOT_ACCEPTED and changes nothing else, one that is enabled runs an arm that writes no response and then answers OK.
-/

namespace Sys2Proof.Laws

open Sys2Proof Sys2Proof.Machine

/- The shared procedures write no response (R131): the answer is given after them. -/

@[simp] theorem nextBlock_responses (s : State) : (nextBlock s).responses = s.responses := by
  rw [nextBlock_eq]
  split_ifs <;> rfl

@[simp] theorem attemptFailed_responses (s : State) : (attemptFailed s).responses = s.responses := by
  rw [attemptFailed_eq]
  split_ifs <;> rfl

@[simp] theorem startRead_responses (c : StateCode) (s : State) : (startRead c s).responses = s.responses := by
  rw [startRead_eq]

@[simp] theorem hsComplete_responses (s : State) : (hsComplete s).responses = s.responses := by
  rw [hsComplete_eq]
  split_ifs <;> rfl

@[simp] theorem finalCheck_responses (s : State) : (finalCheck s).responses = s.responses := by
  rw [finalCheck_eq]
  split_ifs <;> rfl

@[simp] theorem blockLoop_responses (s : State) : (blockLoop s).responses = s.responses := by
  rw [blockLoop_eq]
  split_ifs
  · exact finalCheck_responses s
  · exact startRead_responses .rBlkHdr s

@[simp] theorem acceptBlock_responses (s : State) : (acceptBlock s).responses = s.responses := by
  rw [acceptBlock_eq, blockLoop_responses]

@[simp] theorem rejectBlock_responses (s : State) : (rejectBlock s).responses = s.responses := by
  rw [rejectBlock_eq, blockLoop_responses]

/- Nor does the EV_RX arm of any state, in any of its branches. -/

theorem rxAwaitHsAck_responses (b : Byte) (s : State) : (rxAwaitHsAck b s).responses = s.responses := by
  cases h : tokClass s.params b with
  | ack => rw [rxAwaitHsAck_of_ack h, nextBlock_responses]
  | nak => rw [rxAwaitHsAck_of_nak h, raiseFatal_responses]
  | other => rw [rxAwaitHsAck_of_other h]

theorem rxAwaitResp_responses (b : Byte) (s : State) : (rxAwaitResp b s).responses = s.responses := by
  cases h : tokClass s.params b with
  | ack => rw [rxAwaitResp_of_ack h, nextBlock_responses]
  | nak => rw [rxAwaitResp_of_nak h, attemptFailed_responses]
  | other =>
    cases hpolicy : s.params.blockWaitOther with
    | asNak => rw [rxAwaitResp_of_other_asNak h hpolicy, attemptFailed_responses]
    | ignore => rw [rxAwaitResp_of_other_ignore h hpolicy]

/-- Also with a third byte kept, which no reachable state has. -/
theorem rxAwaitFinal_responses (b : Byte) (s : State) : (rxAwaitFinal b s).responses = s.responses := by
  simp only [rxAwaitFinal]
  split_ifs
  · split
    · rfl
    · exact raiseFatal_responses _ _
    · exact raiseFatal_responses _ _
  · rfl

theorem rxSyncHs_responses (b : Byte) (s : State) : (rxSyncHs b s).responses = s.responses := by
  rw [rxSyncHs_eq]
  split_ifs
  · exact startRead_responses _ _
  · rfl

theorem rxSyncSess_responses (b : Byte) (s : State) : (rxSyncSess b s).responses = s.responses := by
  rw [rxSyncSess_eq]
  split_ifs
  · exact startRead_responses _ _
  · rfl

theorem rxReadHsFixed_responses (b : Byte) (s : State) : (rxReadHsFixed b s).responses = s.responses := by
  simp only [rxReadHsFixed]
  split_ifs
  · exact hsComplete_responses _
  · exact startRead_responses _ _
  · rfl

theorem rxReadHsName_responses (b : Byte) (s : State) : (rxReadHsName b s).responses = s.responses := by
  rw [rxReadHsName_eq]
  split_ifs
  · exact hsComplete_responses _
  · rfl

theorem rxReadSess_responses (b : Byte) (s : State) : (rxReadSess b s).responses = s.responses := by
  simp only [rxReadSess]
  split_ifs
  · exact raiseFatal_responses _ _
  · rw [blockLoop_responses]
    split <;> rfl
  · rfl

theorem rxBlkHdr_responses (b : Byte) (s : State) : (rxBlkHdr b s).responses = s.responses := by
  simp only [rxBlkHdr]
  split_ifs
  · exact startRead_responses _ _
  · exact startRead_responses _ _
  · rfl

theorem rxBlkPayload_responses (b : Byte) (s : State) : (rxBlkPayload b s).responses = s.responses := by
  rw [rxBlkPayload_eq]
  split_ifs
  · exact startRead_responses _ _
  · rfl

theorem rxBlkCrc_responses (b : Byte) (s : State) : (rxBlkCrc b s).responses = s.responses := by
  simp only [rxBlkCrc]
  split_ifs
  · exact acceptBlock_responses _
  · exact rejectBlock_responses _
  · rfl

theorem rxArm_responses {c : StateCode} {arm : Byte → State → State} (h : rxArm c = some arm) (b : Byte) (s : State) :
    (arm b s).responses = s.responses := by
  cases c with
  | sAwaitHsAck => exact Option.some.inj h ▸ rxAwaitHsAck_responses b s
  | sAwaitResp => exact Option.some.inj h ▸ rxAwaitResp_responses b s
  | sAwaitFinal => exact Option.some.inj h ▸ rxAwaitFinal_responses b s
  | rSyncHs => exact Option.some.inj h ▸ rxSyncHs_responses b s
  | rReadHsFixed => exact Option.some.inj h ▸ rxReadHsFixed_responses b s
  | rReadHsName => exact Option.some.inj h ▸ rxReadHsName_responses b s
  | rSyncSess => exact Option.some.inj h ▸ rxSyncSess_responses b s
  | rReadSess => exact Option.some.inj h ▸ rxReadSess_responses b s
  | rBlkHdr => exact Option.some.inj h ▸ rxBlkHdr_responses b s
  | rBlkPayload => exact Option.some.inj h ▸ rxBlkPayload_responses b s
  | rBlkCrc => exact Option.some.inj h ▸ rxBlkCrc_responses b s
  | _ => nomatch h

/-- An expiry is a failed attempt in S_AWAIT_RESP, and a fatal entry in every other state with an arm (R359). -/
theorem timeoutArm_cases {c : StateCode} {arm : State → State} (h : timeoutArm c = some arm) :
    arm = attemptFailed ∨ ∃ k, arm = raiseFatal k := by
  cases c with
  | sAwaitResp => exact .inl (Option.some.inj h).symm
  | sAwaitFinal => exact .inr ⟨.integrityFile, (Option.some.inj h).symm⟩
  | sAwaitHsAck | rSyncHs | rSyncSess | rReadHsFixed | rReadHsName | rReadSess | rBlkHdr | rBlkPayload | rBlkCrc =>
    exact .inr ⟨.linkTimeout, (Option.some.inj h).symm⟩
  | _ => nomatch h

theorem timeoutArm_responses {c : StateCode} {arm : State → State} (h : timeoutArm c = some arm) (s : State) :
    (arm s).responses = s.responses := by
  obtain rfl | ⟨k, rfl⟩ := timeoutArm_cases h
  · exact attemptFailed_responses s
  · exact raiseFatal_responses k s

/- Where an event finds an arm: the reading states (R38, R358, R359). -/

theorem rxArm_isSome_iff (c : StateCode) : (rxArm c).isSome = true ↔ c ∈ Spec.readingStates := by
  rw [rxArm_isSome, rxReady_eq_decide_mem, decide_eq_true_iff]

theorem timeoutArm_isSome_iff (c : StateCode) : (timeoutArm c).isSome = true ↔ c ∈ Spec.readingStates := by
  rw [timeoutArm_isSome, rxReady_eq_decide_mem, decide_eq_true_iff]

/-- The states that arm a deadline are among those that read (R357). -/
theorem mem_readingStates_of_stateTimer {P : Params} {c : StateCode} (h : stateTimer P c ≠ .none) :
    c ∈ Spec.readingStates := by
  rw [← timeoutArm_isSome_iff]
  cases c with
  | sAwaitHsAck | sAwaitResp | sAwaitFinal | rSyncHs | rSyncSess => rfl
  | rReadHsFixed | rReadHsName | rReadSess | rBlkHdr | rBlkPayload | rBlkCrc => rfl
  | _ => exact absurd rfl h

theorem stateKind_eq_terminal_iff (c : StateCode) : stateKind c = .terminal ↔ c ∈ Spec.terminalStates := by
  rw [← beq_iff_eq, ← isTerminal, isTerminal_eq_decide_mem, decide_eq_true_iff]

/- Each event, taken and not taken. -/

/-- A command whose pseudocode wrote no response answers OK and nothing else. -/
theorem accepted_answers_ok {s t : State} (h : t.responses = s.responses) :
    ∃ u, accepted t = .next u ∧ u.responses = Spec.ok s :=
  ⟨_, accepted_eq_next t, by rw [Spec.ok, Spec.ok, h]⟩

theorem exec_evRx_not_taken {s : State} (h : s.state ∉ Spec.readingStates) (b : Byte) :
    exec (.evRx b) s = .next (Spec.notTaken s) := by
  have harm : rxArm s.state = none := Option.not_isSome_iff_eq_none.mp (mt (rxArm_isSome_iff s.state).mp h)
  change execEvRx b s = _
  rw [execEvRx, harm]
  exact notAccepted_eq_next s

theorem exec_evRx_taken {s : State} (h : s.state ∈ Spec.readingStates) (b : Byte) :
    ∃ t, exec (.evRx b) s = .next t ∧ t.responses = Spec.ok s := by
  obtain ⟨arm, harm⟩ := Option.isSome_iff_exists.mp ((rxArm_isSome_iff s.state).mpr h)
  rw [exec_evRx_of_rxArm rfl harm]
  exact accepted_answers_ok (rxArm_responses harm b s)

theorem exec_evTimeout_not_taken {s : State} (h : s.timer_kind = .none) :
    exec .evTimeout s = .next (Spec.notTaken s) := by
  change execEvTimeout s = _
  rw [execEvTimeout, h]
  exact notAccepted_eq_next s

/-- The invariant gives the armed deadline's state an arm, so the model's fault is out of reach (R357). -/
theorem exec_evTimeout_taken {s : State} (hinv : ControlInv s) (h : s.timer_kind ≠ .none) :
    ∃ t, exec .evTimeout s = .next t ∧ t.responses = Spec.ok s := by
  have hreading : s.state ∈ Spec.readingStates := mem_readingStates_of_stateTimer (hinv.timer ▸ h)
  obtain ⟨arm, harm⟩ := Option.isSome_iff_exists.mp ((timeoutArm_isSome_iff s.state).mpr hreading)
  change ∃ t, execEvTimeout s = .next t ∧ _
  rw [execEvTimeout_of_arm harm h]
  exact accepted_answers_ok (timeoutArm_responses harm s)

/-- Settles O35, event by event: EV_RX by the reading states, EV_TIMEOUT by the armed deadline, the host's aborts by
IDLE and the terminal states (O34, where a taken abort is a fatal entry answered OK). -/
theorem disabledEventsChangeNothing : Obligations.DisabledEventsChangeNothing := by
  obtain ⟨-, -, haborts⟩ := hostAborts
  refine ⟨encode_evRx, fun s => ⟨exec_evRx_not_taken, exec_evRx_taken, exec_evTimeout_not_taken, exec_evTimeout_taken,
    fun hresting => ?notTaken, fun hidle hterminal => ?taken⟩⟩
  case notTaken =>
    obtain ⟨-, hnotTaken⟩ := haborts s
    exact hnotTaken (hresting.imp_right (stateKind_eq_terminal_iff s.state).mpr)
  case taken =>
    obtain ⟨htaken, -⟩ := haborts s
    obtain ⟨hio, habort⟩ := htaken hidle (mt (stateKind_eq_terminal_iff s.state).mp hterminal)
    exact ⟨⟨_, hio, rfl⟩, ⟨_, habort, rfl⟩⟩

end Sys2Proof.Laws

/-!
The engine after power-on (70_reset_and_hazards.md R450): the fields of each role at their reset values for every choice
of the parameters, which reset leaves alone (10_state.md R70), and why STATUS then reads 0.
-/

namespace Sys2Proof.Laws

open Sys2Proof Sys2Proof.Machine

theorem senderAtReset_reset (P : Params) : senderAtReset { State.reset with params := P } :=
  ⟨rfl, rfl, rfl, rfl, rfl, rfl, rfl, rfl, rfl, rfl, rfl⟩

theorem receiverAtReset_reset (P : Params) : receiverAtReset { State.reset with params := P } :=
  ⟨rfl, rfl, rfl, rfl, rfl, rfl, rfl, rfl, rfl, rfl, rfl, rfl, rfl, rfl⟩

/-- The code of each control field's reset value is 0 (R32 to R37), and IDLE is neither terminal (R67) nor a state
that reads the channel (R38): no bit of STATUS is set, whatever the other fields hold. -/
theorem statusWord_eq_zero {s : State} (hstate : s.state = .idle) (hrole : s.role = .none) (herror : s.error = .none)
    (hillegal : s.illegal = false) (htimer : s.timer_kind = .none) (htemp : s.temp_open = false) :
    statusWord s = 0 := by
  rw [statusWord, hstate, hrole, herror, hillegal, htimer, htemp]
  rfl

/-- Settles O41: the control and unit fields by the definition of reset, those of the two roles and STATUS by the laws
above. -/
theorem resetValues : Obligations.ResetValues := by
  have hstatus : regValue State.reset 0x00 = some 0 :=
    (regValue_status State.reset).trans (congrArg some (statusWord_eq_zero rfl rfl rfl rfl rfl rfl))
  exact ⟨rfl, rfl, rfl, rfl, rfl, rfl, senderAtReset_reset _, receiverAtReset_reset _, rfl, rfl, rfl, rfl, rfl, hstatus⟩

end Sys2Proof.Laws

/-!
The command port's encoding (30_encoding.md R130, R132 to R134): what decodes, the round trip in both directions, and
the step that takes a command (45_control.md R351).
-/

namespace Sys2Proof.Laws

open Sys2Proof Sys2Proof.Machine

/- The opcode map (R132, R133): each byte names at most one command. -/

theorem opcodeOf_byte (op : Opcode) : opcodeOf op.byte = some op := by
  cases op <;> rfl

theorem opcodeOf_eq_some_iff {b : Byte} {op : Opcode} : opcodeOf b = some op ↔ b = op.byte := by
  constructor
  · intro h
    exact (beq_iff_eq.mp (List.find?_some (p := fun o : Opcode => o.byte == b) h)).symm
  · rintro rfl
    exact opcodeOf_byte op

theorem mem_opcodeTable (op : Opcode) : op ∈ opcodeTable := by
  cases op <;> decide

/-- When a byte string decodes, and to what (R130, R133, R134). -/
theorem decode_eq_ok_iff {bs : List Byte} {i : Instr} :
    decode bs = .ok i ↔
      ∃ op : Opcode, bs.head? = some op.byte ∧ bs.length = formatLength op.format bs ∧ assemble op bs = i := by
  cases bs with
  | nil => simp [decode]
  | cons b bs =>
    cases hop : opcodeOf b with
    | none =>
      have hreserved : ∀ op : Opcode, b ≠ op.byte := by
        rintro op rfl
        exact Option.some_ne_none _ ((opcodeOf_byte op).symm.trans hop)
      simp [decode, hop, hreserved]
    | some op =>
      obtain rfl := opcodeOf_eq_some_iff.mp hop
      have hunique : ∀ op' : Opcode, op.byte = op'.byte ↔ op = op' := fun op' => by
        rw [← opcodeOf_eq_some_iff, opcodeOf_byte, Option.some.injEq]
      simp only [decode, hop, List.head?_cons, Option.some.injEq, hunique, exists_eq_left']
      split_ifs with hlen
      · exact ⟨fun h => ⟨hlen, Except.ok.inj h⟩, fun ⟨_, h⟩ => congrArg _ h⟩
      · exact ⟨nofun, fun ⟨h, _⟩ => absurd h hlen⟩

/- From a command to its bytes and back: each field is read where it was written. -/

/-- An encoded well-formed command is as long as its format says, for every command (R130). -/
theorem encode_length (i : Instr) : EncodeLength.Statement i := by
  cases i with
  | crcInit seed => exact EncodeLength.crcInit seed
  | crcFeed data => exact EncodeLength.crcFeed data
  | crcRead => exact EncodeLength.crcRead
  | encHs total crc name => exact EncodeLength.encHs total crc name
  | decHs bytes => exact EncodeLength.decHs bytes
  | encSess total crc => exact EncodeLength.encSess total crc
  | decSess bytes => exact EncodeLength.decSess bytes
  | encBlk seq crc payload => exact EncodeLength.encBlk seq crc payload
  | decBlk bytes => exact EncodeLength.decBlk bytes
  | tokClass b => exact EncodeLength.tokClass b
  | finClass b0 b1 => exact EncodeLength.finClass b0 b1
  | syncArm magic => exact EncodeLength.syncArm magic
  | syncFeed b => exact EncodeLength.syncFeed b
  | sStart blockSize maxAttempts => exact EncodeLength.sStart blockSize maxAttempts
  | rStart => exact EncodeLength.rStart
  | modeDone ok => exact EncodeLength.modeDone ok
  | sFileData data => exact EncodeLength.sFileData data
  | sFileEnd name => exact EncodeLength.sFileEnd name
  | sBlockData data => exact EncodeLength.sBlockData data
  | evRx b => exact EncodeLength.evRx b
  | evTimeout => exact EncodeLength.evTimeout
  | evIoError => exact EncodeLength.evIoError
  | evAbort => exact EncodeLength.evAbort
  | regRead addr => exact EncodeLength.regRead addr
  | reset => exact EncodeLength.reset

/-- A variable-length operand is read back behind the bytes that precede it (R130). -/
theorem slice_lengthPrefixed {pre s : List Byte} {o : Nat} (hpre : pre.length = o) (hs : s.length ≤ 65535) :
    slice (pre ++ lengthPrefixed s) (o + 2) (rdLe16 (pre ++ lengthPrefixed s) o).toNat = s := by
  rw [rdLe16_lengthPrefixed pre s o hpre hs, lengthPrefixed, ← List.append_assoc, slice,
    List.drop_left' (by rw [List.length_append, hpre, le16_length]), List.take_length]

theorem cdData_lengthPrefixed (b : Byte) {s : List Byte} (hs : s.length ≤ 65535) :
    cdData (b :: lengthPrefixed s) = s :=
  slice_lengthPrefixed (pre := [b]) rfl hs

/-- The operands are read back from the bytes that the encoder wrote. -/
theorem assemble_encode {i : Instr} (h : i.WellFormed) : assemble i.opcode (encode i) = i := by
  cases i with
  | crcRead | rStart | evTimeout | evIoError | evAbort | reset => rfl
  | tokClass b | syncFeed b | modeDone b | evRx b | regRead b => rfl
  | finClass b0 b1 => rfl
  | syncArm magic => rfl
  | crcFeed s | decHs s | decSess s | decBlk s | sFileData s | sFileEnd s | sBlockData s =>
    exact congrArg _ (cdData_lengthPrefixed _ h)
  | crcInit seed => exact congrArg Instr.crcInit (rdLe32_le32 seed [])
  | sStart blockSize maxAttempts =>
    exact congrArg₂ Instr.sStart (rdLe16_le16 blockSize (le16 maxAttempts)) (rdLe16_le16 maxAttempts [])
  | encSess total crc => exact congrArg₂ Instr.encSess (rdLe64_le64 total (le32 crc)) (rdLe32_le32 crc [])
  | encHs total crc name =>
    have htotal : rdLe64 (encode (.encHs total crc name)) 1 = total :=
      rdLe64_le64 total (le32 crc ++ lengthPrefixed name)
    have hcrc : rdLe32 (encode (.encHs total crc name)) 9 = crc := rdLe32_le32 crc (lengthPrefixed name)
    have hname := slice_lengthPrefixed (pre := Opcode.encHs.byte :: (le64 total ++ le32 crc)) rfl h
    change Instr.encHs _ _ _ = _
    rw [htotal, hcrc]
    exact congrArg _ hname
  | encBlk seq crc payload =>
    have hseq : rdLe16 (encode (.encBlk seq crc payload)) 1 = seq :=
      rdLe16_le16 seq (le32 crc ++ lengthPrefixed payload)
    have hcrc : rdLe32 (encode (.encBlk seq crc payload)) 3 = crc := rdLe32_le32 crc (lengthPrefixed payload)
    have hpayload := slice_lengthPrefixed (pre := Opcode.encBlk.byte :: (le16 seq ++ le32 crc)) rfl h
    change Instr.encBlk _ _ _ = _
    rw [hseq, hcrc]
    exact congrArg _ hpayload

/-- Settles O45: the opcode byte names the command, the length is the format's, and the operands are read back. -/
theorem decodeOfEncode : Obligations.DecodeOfEncode := by
  intro i h
  exact decode_eq_ok_iff.mpr ⟨i.opcode, rfl, encode_length i h, assemble_encode h⟩

/- From bytes to a command and back: the operands of a command, written again, are the slices they were read from. -/

theorem opcode_assemble (op : Opcode) (bs : List Byte) : (assemble op bs).opcode = op := by
  cases op <;> rfl

theorem slice_one_of_length {bs : List Byte} {n : Nat} (h : bs.length = n + 1) : slice bs 1 n = bs.drop 1 := by
  rw [slice, List.take_of_length_le (by rw [List.length_drop]; omega)]

/-- A variable-length operand written again is its length field and its bytes. -/
theorem lengthPrefixed_slice {bs : List Byte} {o : Nat} (h : bs.length = o + 2 + (rdLe16 bs o).toNat) :
    lengthPrefixed (slice bs (o + 2) (rdLe16 bs o).toNat) = slice bs o (2 + (rdLe16 bs o).toNat) := by
  have hlength : (slice bs (o + 2) (rdLe16 bs o).toNat).length = (rdLe16 bs o).toNat := by
    rw [slice, List.length_take, List.length_drop]
    omega
  rw [lengthPrefixed, len16, hlength, BitVec.ofNat_toNat, BitVec.setWidth_eq, le16_rdLe16_eq_slice (by omega),
    slice_append_slice]

theorem lengthPrefixed_cdData {bs : List Byte} (h : bs.length = 3 + (rdLe16 bs 1).toNat) :
    lengthPrefixed (cdData bs) = bs.drop 1 := by
  rw [cdData, lengthPrefixed_slice h, slice_one_of_length (by omega)]

theorem operandBytes_assemble {op : Opcode} {bs : List Byte} (h : bs.length = formatLength op.format bs) :
    (assemble op bs).operandBytes = bs.drop 1 := by
  cases op with
  | crcRead | rStart | evTimeout | evIoError | evAbort | reset =>
    exact (List.drop_eq_nil_of_le (le_of_eq h)).symm
  | tokClass | syncFeed | modeDone | evRx | regRead =>
    have hlen : bs.length = 2 := h
    rw [← slice_one_of_length hlen, slice_one (by omega)]
    rfl
  | crcFeed | decHs | decSess | decBlk | sFileData | sFileEnd | sBlockData => exact lengthPrefixed_cdData h
  | finClass =>
    have hlen : bs.length = 3 := h
    rw [← slice_one_of_length hlen, ← slice_append_slice bs 1 1 1, slice_one (by omega), slice_one (by omega)]
    rfl
  | syncArm =>
    have hlen : bs.length = 5 := h
    rw [← slice_one_of_length hlen, ← le32_rdLe32_eq_slice (by omega), le32_rdLe32]
    rfl
  | crcInit =>
    have hlen : bs.length = 5 := h
    rw [← slice_one_of_length hlen, ← le32_rdLe32_eq_slice (by omega)]
    rfl
  | sStart =>
    have hlen : bs.length = 5 := h
    rw [← slice_one_of_length hlen, ← slice_append_slice bs 1 2 2, ← le16_rdLe16_eq_slice (by omega),
      ← le16_rdLe16_eq_slice (by omega)]
    rfl
  | encSess =>
    have hlen : bs.length = 13 := h
    rw [← slice_one_of_length hlen, ← slice_append_slice bs 1 8 4, ← le64_rdLe64_eq_slice (by omega),
      ← le32_rdLe32_eq_slice (by omega)]
    rfl
  | encHs =>
    have hlen : bs.length = 13 + 2 + (rdLe16 bs 13).toNat := h
    change le64 (rdLe64 bs 1) ++ le32 (rdLe32 bs 9) ++ lengthPrefixed (slice bs (13 + 2) (rdLe16 bs 13).toNat) = _
    rw [lengthPrefixed_slice hlen, le64_rdLe64_eq_slice (by omega), le32_rdLe32_eq_slice (by omega),
      slice_append_slice, slice_append_slice, slice_one_of_length (by omega)]
  | encBlk =>
    have hlen : bs.length = 7 + 2 + (rdLe16 bs 7).toNat := h
    change le16 (rdLe16 bs 1) ++ le32 (rdLe32 bs 3) ++ lengthPrefixed (slice bs (7 + 2) (rdLe16 bs 7).toNat) = _
    rw [lengthPrefixed_slice hlen, le16_rdLe16_eq_slice (by omega), le32_rdLe32_eq_slice (by omega),
      slice_append_slice, slice_append_slice, slice_one_of_length (by omega)]

/-- The length field has 16 bits, so what it counts fits a command. -/
theorem length_slice_toNat_le (bs : List Byte) (o : Nat) (n : Half) : (slice bs o n.toNat).length ≤ 65535 :=
  (List.length_take_le _ _).trans (Nat.le_of_lt_succ n.isLt)

theorem wellFormed_assemble (op : Opcode) (bs : List Byte) : (assemble op bs).WellFormed := by
  cases op with
  | crcFeed | decHs | decSess | decBlk | sFileData | sFileEnd | sBlockData | encHs | encBlk =>
    exact length_slice_toNat_le bs _ _
  | _ => exact Nat.zero_le _

/-- Settles O46: the opcode byte and the operand bytes make up the whole string, so none is dropped. -/
theorem encodeOfDecode : Obligations.EncodeOfDecode := by
  intro bs i h
  obtain ⟨op, hhead, hlen, rfl⟩ := decode_eq_ok_iff.mp h
  refine ⟨?bytes, wellFormed_assemble op bs⟩
  obtain ⟨tail, rfl⟩ := List.head?_eq_some_iff.mp hhead
  rw [encode, opcode_assemble, operandBytes_assemble hlen]
  rfl

/- The commands by format (R130, R132). -/

/-- The opcode bytes of a format, in the table's order. -/
def formatBytes (f : Format) : List (Option Byte) :=
  (opcodeTable.filter fun op => op.format = f).map fun op => some op.byte

theorem mem_formatBytes {f : Format} {h : Option Byte} :
    h ∈ formatBytes f ↔ ∃ op : Opcode, op.format = f ∧ h = some op.byte := by
  simp [formatBytes, mem_opcodeTable, eq_comm]

/-- A byte string is a command exactly when its first byte is of some format and its length is that format's. -/
theorem decodes_iff_format (bs : List Byte) :
    (∃ i, decode bs = .ok i) ↔ ∃ f, bs.head? ∈ formatBytes f ∧ bs.length = formatLength f bs := by
  simp only [decode_eq_ok_iff, mem_formatBytes]
  constructor
  · rintro ⟨-, op, hhead, hlen, -⟩
    exact ⟨op.format, ⟨op, rfl, hhead⟩, hlen⟩
  · rintro ⟨-, ⟨op, rfl, hhead⟩, hlen⟩
    exact ⟨_, op, hhead, hlen, rfl⟩

theorem exists_format_iff {p : Format → Prop} :
    (∃ f, p f) ↔ p .c0 ∨ p .c8 ∨ p .c8x2 ∨ (p .c32 ∨ p .cm ∨ p .c16x2) ∨ p .css ∨ p .cd ∨ p .chs ∨ p .cbk := by
  constructor
  · rintro ⟨f, hf⟩
    cases f <;> simp only [hf, true_or, or_true]
  · rintro (h | h | h | (h | h | h) | h | h | h | h) <;> exact ⟨_, h⟩

/-- Settles O44, format by format; the three formats of five bytes share a clause. -/
theorem legalCommands : Obligations.LegalCommands := by
  intro bs
  have hfive : (bs.head? ∈ [some (0x10 : Byte), some 0x30, some 0x40] ∧ bs.length = 5) ↔
      (bs.head? ∈ formatBytes .c32 ∧ bs.length = 5) ∨ (bs.head? ∈ formatBytes .cm ∧ bs.length = 5) ∨
        (bs.head? ∈ formatBytes .c16x2 ∧ bs.length = 5) := by
    rw [← or_and_right, ← or_and_right, ← List.mem_append, ← List.mem_append]
    exact Iff.rfl
  rw [decodes_iff_format, exists_format_iff, hfive, ← List.mem_singleton (a := bs.head?) (b := some 0x27),
    ← List.mem_singleton (a := bs.head?) (b := some 0x22), ← List.mem_singleton (a := bs.head?) (b := some 0x20),
    ← List.mem_singleton (a := bs.head?) (b := some 0x24), ← rdLe16_toNat bs 1, ← rdLe16_toNat bs 13,
    ← rdLe16_toNat bs 7]
  exact Iff.rfl

/-- Settles O47: closed words, evaluated by the decoder. -/
theorem wordsDecode : Obligations.WordsDecode := by
  refine ⟨?_, ?_, ?_, ?_, ?_, ?_, ?_, ?_⟩ <;> decide

/- The step that takes a command (R351; logs 2 and 5). -/

theorem step_of_wellFormed {s : State} (hwf : s.params.WellFormed) {cmd : List Byte} {rest : List (List Byte)}
    (hport : s.cmd_port = cmd :: rest) : step s = runCommand cmd { s with cmd_port := rest } := by
  rw [step, takeCommand, if_pos hwf, hport]

theorem runCommand_of_ok {cmd : List Byte} {i : Instr} (h : decode cmd = .ok i) (s : State) :
    runCommand cmd s = exec i s := by
  rw [runCommand, h]

theorem runCommand_of_error {cmd : List Byte} {e : DecodeError} (h : decode cmd = .error e) (s : State) :
    runCommand cmd s = .next (Spec.refused s) := by
  rw [runCommand, h, refuse_eq_next]

/-- Settles O42, by whether the command decodes. -/
theorem stepRunsDecodedCommand : Obligations.StepRunsDecodedCommand := by
  intro s cmd rest hwf hport
  refine ⟨fun i hi => ?decodes, fun e he => ?refused⟩
  case decodes => rw [step_of_wellFormed hwf hport, runCommand_of_ok hi]
  case refused => rw [step_of_wellFormed hwf hport, runCommand_of_error he]

end Sys2Proof.Laws

/-!
What a command can do, said once for all 25 of them: a step of the standalone units, a refusal or an event that is not
taken; a move of the transfer, listed branch by branch with its guards; or RESET. The properties of every step are read
off this list.
-/

namespace Sys2Proof.Laws

open Sys2Proof Sys2Proof.Machine

/-- A fatal entry from the fields as they are: the state is neither IDLE nor terminal, and the failed state of its role
can hold the code (60_exceptions.md R401, R404). The retry limit has a branch of its own. -/
def FatalFrom (c : StateCode) (k : ErrorCode) : Prop :=
  c ≠ .idle ∧ stateKind c ≠ .terminal ∧ errorFits (failedState (stateRole c)) k = true ∧ k ≠ .retryExhausted

/-- The branches of the transfer's commands and events: the state before, and the state after the pseudocode, before the
OK response (43_sender.md, 44_receiver.md, 45_control.md R354, R355, R359). The command is named where a branch takes an
operand whose length its format bounds. -/
inductive Move (i : Instr) (s : State) : State → Prop
  | startFatal (hs : s.state = .idle) : Move i s (raiseFatal .configError { s with role := .sender })
  | startSender (blockSize maxAttempts : Half) (hs : s.state = .idle) (hblock : blockSize ≠ 0)
      (hatt : maxAttempts ≠ 0) :
      Move i s
        { s with
          role := .sender, s_block := blockSize, s_maxatt := maxAttempts, s_total := 0, s_fcrc := 0,
          state := .sModePending, outputs := s.outputs ++ [.modeReq .sender] }
  | startReceiver (hs : s.state = .idle) :
      Move i s
        { s with role := .receiver, state := .rModePending, outputs := s.outputs ++ [.modeReq .receiver] }
  | fatal (k : ErrorCode) (hk : FatalFrom s.state k) : Move i s (raiseFatal k s)
  | modeEntered (hs : s.state = .sModePending) : Move i s { s with state := .sModeEntered }
  | fileData (fcrc : Word) (total : Dword) (hs : s.state = .sModeEntered) :
      Move i s { s with s_fcrc := fcrc, s_total := total }
  | fileEnd (name : List Byte) (hi : i = .sFileEnd name) (hs : s.state = .sModeEntered) :
      Move i s
        { s with
          s_name := name, timer_kind := .hsAck, state := .sAwaitHsAck,
          outputs := s.outputs ++ [.tx (encodeHandshake s.params name s.s_total s.s_fcrc), .timerArm .hsAck] }
  | handshakeAcked (hs : s.state = .sAwaitHsAck) :
      Move i s
        (nextBlock
          { s with
            s_seq := 0, s_sent := 0, s_att := 0, timer_kind := .none,
            outputs := s.outputs ++ Spec.stopped s ++ [.tx (encodeSession s.params s.s_total s.s_fcrc)] })
  | ignored (hs : s.state = .sAwaitHsAck ∨ s.state = .sAwaitResp) : Move i s s
  | blockData (data : List Byte) (hs : s.state = .sNeedData) (hlen : data.length = s.s_curlen.toNat) :
      Move i s
        { s with
          s_frame := encodeBlock s.s_seq data (crc data 0), s_att := 1, timer_kind := .blockResp,
          state := .sAwaitResp,
          outputs := s.outputs ++ [.tx (encodeBlock s.s_seq data (crc data 0)), .timerArm .blockResp] }
  | blockAcked (hs : s.state = .sAwaitResp) :
      Move i s
        (nextBlock
          { s with
            s_sent := s.s_sent + s.s_curlen.setWidth 64, s_seq := s.s_seq + 1, s_att := 0, timer_kind := .none,
            outputs := s.outputs ++ Spec.stopped s })
  | resend (hs : s.state = .sAwaitResp) (hatt : s.s_att.toNat < s.s_maxatt.toNat) :
      Move i s
        { s with
          s_att := s.s_att + 1, timer_kind := .blockResp,
          outputs := s.outputs ++ [.tx s.s_frame, .timerArm .blockResp] }
  | exhausted (hs : s.state = .sAwaitResp) (hatt : s.s_maxatt.toNat ≤ s.s_att.toNat) :
      Move i s (raiseFatal .retryExhausted s)
  | finalByte (b : Byte) (hs : s.state = .sAwaitFinal) (hlen : s.s_fin.length ≠ 1) :
      Move i s { s with s_fin := s.s_fin ++ [b] }
  | done (hs : s.state = .sAwaitFinal) :
      Move i s
        { s with
          s_fin := tokenBytes s.params.okToken, timer_kind := .none, state := .sDone,
          outputs := s.outputs ++ Spec.stopped s ++ [.endTransfer .none] }
  | badToken (a b : Byte) (hs : s.state = .sAwaitFinal) :
      Move i s (raiseFatal .integrityFile { s with s_fin := [a, b] })
  | syncing (hs : s.state = .rModePending) :
      Move i s
        { s with
          e_win := [], timer_kind := .hsSync, state := .rSyncHs, outputs := s.outputs ++ [.timerArm .hsSync] }
  | noise (b : Byte) (hs : s.state = .rSyncHs ∨ s.state = .rSyncSess) :
      Move i s { s with e_win := lastN 4 (s.e_win ++ [b]) }
  | handshakeFound (hs : s.state = .rSyncHs) : Move i s (startRead .rReadHsFixed { s with e_win := [] })
  | sessionFound (hs : s.state = .rSyncSess) : Move i s (startRead .rReadSess { s with e_win := [] })
  | buffered (b : Byte)
      (hs : (s.state = .rReadHsFixed ∧ s.r_buf.length ≠ 14) ∨ (s.state = .rReadSess ∧ s.r_buf.length ≠ 12) ∨
        ((s.state = .rBlkHdr ∨ s.state = .rBlkCrc) ∧ s.r_buf.length ≠ 3)) :
      Move i s { s with r_buf := s.r_buf ++ [b] }
  | fixedNoName (buf : List Byte) (v : Byte) (total : Dword) (fcrc : Word) (hs : s.state = .rReadHsFixed)
      (hlen : buf.length = 15) :
      Move i s
        (hsComplete
          { s with r_buf := buf, r_version := v, r_name_len := 0, r_total := total, r_fcrc := fcrc, r_name := [] })
  | fixedName (v : Byte) (n : Half) (total : Dword) (fcrc : Word) (hs : s.state = .rReadHsFixed) (hn : n ≠ 0) :
      Move i s
        (startRead .rReadHsName
          { s with r_version := v, r_name_len := n, r_total := total, r_fcrc := fcrc, r_name := [] })
  | nameByte (b : Byte) (hs : s.state = .rReadHsName) (hlen : s.r_name.length + 1 ≠ s.r_name_len.toNat) :
      Move i s { s with r_name := s.r_name ++ [b] }
  | nameComplete (b : Byte) (hs : s.state = .rReadHsName) (hlen : s.r_name.length + 1 = s.r_name_len.toNat) :
      Move i s (hsComplete { s with r_name := s.r_name ++ [b] })
  | badSession (buf : List Byte) (hs : s.state = .rReadSess) (hlen : buf.length = 13) :
      Move i s (raiseFatal .protocolMismatch { s with r_buf := buf })
  | session (buf : List Byte) (hs : s.state = .rReadSess) (hlen : buf.length = 13) :
      Move i s
        (blockLoop
          { s with
            r_buf := buf, r_exp_seq := 0, r_count := 0, r_run_crc := 0, r_verdict := .none,
            temp_open := if s.params.openTempAt = .sessionValidated then true else s.temp_open,
            outputs := s.outputs ++
              (if s.params.openTempAt = .sessionValidated then [.openTemp s.r_name] else []) })
  | header (q n : Half) (hs : s.state = .rBlkHdr) :
      Move i s
        (startRead (if n = 0 then .rBlkCrc else .rBlkPayload)
          { s with r_blk_seq := q, r_blk_len := n, r_payload := [] })
  | payloadByte (b : Byte) (hs : s.state = .rBlkPayload) (hlen : s.r_payload.length + 1 ≠ s.r_blk_len.toNat) :
      Move i s { s with r_payload := s.r_payload ++ [b] }
  | payloadComplete (b : Byte) (hs : s.state = .rBlkPayload) (hlen : s.r_payload.length + 1 = s.r_blk_len.toNat) :
      Move i s (startRead .rBlkCrc { s with r_payload := s.r_payload ++ [b] })
  | accepted (buf : List Byte) (hs : s.state = .rBlkCrc) (hlen : buf.length = 4)
      (hseq : s.r_blk_seq = s.r_exp_seq) :
      Move i s
        (blockLoop
          { s with
            r_buf := buf, r_count := s.r_count + s.r_blk_len.toNat, r_run_crc := crc s.r_payload s.r_run_crc,
            r_exp_seq := s.r_exp_seq + 1, r_verdict := .accepted,
            outputs := s.outputs ++ [.writeTemp s.r_payload, .tx [s.params.ackByte]] })
  | rejected (buf : List Byte) (verdict : Verdict) (hs : s.state = .rBlkCrc) (hlen : buf.length = 4) :
      Move i s
        (blockLoop
          { s with r_buf := buf, r_verdict := verdict, outputs := s.outputs ++ [.tx [s.params.nakByte]] })

/- The arms of EV_RX and EV_TIMEOUT are moves. -/

section Arms

variable {i : Instr} {s : State}

theorem move_raiseFatal {c : StateCode} {k : ErrorCode} (hs : s.state = c) (hk : FatalFrom c k) :
    Move i s (raiseFatal k s) :=
  .fatal k (hs ▸ hk)

theorem move_attemptFailed (hs : s.state = .sAwaitResp) : Move i s (attemptFailed s) := by
  rw [attemptFailed_eq]
  split_ifs with hatt
  · exact .exhausted hs hatt
  · exact .resend hs (Nat.lt_of_not_le hatt)

theorem move_rxAwaitHsAck (hs : s.state = .sAwaitHsAck) (b : Byte) : Move i s (rxAwaitHsAck b s) := by
  cases h : tokClass s.params b with
  | ack => exact rxAwaitHsAck_of_ack h ▸ .handshakeAcked hs
  | nak => exact rxAwaitHsAck_of_nak h ▸ move_raiseFatal hs (by unfold FatalFrom; decide)
  | other => exact (rxAwaitHsAck_of_other h).symm ▸ .ignored (.inl hs)

theorem move_rxAwaitResp (hs : s.state = .sAwaitResp) (b : Byte) : Move i s (rxAwaitResp b s) := by
  cases h : tokClass s.params b with
  | ack => exact rxAwaitResp_of_ack h ▸ .blockAcked hs
  | nak => exact rxAwaitResp_of_nak h ▸ move_attemptFailed hs
  | other =>
    cases hpolicy : s.params.blockWaitOther with
    | asNak => exact rxAwaitResp_of_other_asNak h hpolicy ▸ move_attemptFailed hs
    | ignore => exact (rxAwaitResp_of_other_ignore h hpolicy).symm ▸ .ignored (.inr hs)

theorem move_rxAwaitFinal (hs : s.state = .sAwaitFinal) (b : Byte) : Move i s (rxAwaitFinal b s) := by
  by_cases hlen : s.s_fin.length = 1
  · obtain ⟨a, hfin⟩ := List.length_eq_one_iff.mp hlen
    by_cases hok : (⟨a, b⟩ : Bytes2) = s.params.okToken
    · have hbytes : [a, b] = tokenBytes s.params.okToken := congrArg tokenBytes hok
      rw [rxAwaitFinal_of_okToken hfin hok, hbytes]
      exact .done hs
    · exact rxAwaitFinal_of_other_token hfin hok ▸ .badToken a b hs
  · have hkept : rxAwaitFinal b s = { s with s_fin := s.s_fin ++ [b] } :=
      if_neg (mt (length_concat_eq_iff s.s_fin b 1).mp hlen)
    exact hkept ▸ .finalByte b hs hlen

theorem move_rxSyncHs (hs : s.state = .rSyncHs) (b : Byte) : Move i s (rxSyncHs b s) := by
  rw [rxSyncHs_eq]
  split_ifs
  · exact .handshakeFound hs
  · exact .noise b (.inl hs)

theorem move_rxSyncSess (hs : s.state = .rSyncSess) (b : Byte) : Move i s (rxSyncSess b s) := by
  rw [rxSyncSess_eq]
  split_ifs
  · exact .sessionFound hs
  · exact .noise b (.inr hs)

/-- Every list of 15 bytes is the fixed fields of some handshake, so the arm's equation covers every buffer. -/
theorem handshakeFixed_of_length {x : List Byte} (h : x.length = 15) :
    x = [byteAt x 0] ++ le16 (rdLe16 x 1) ++ le64 (rdLe64 x 3) ++ le32 (rdLe32 x 11) := by
  rw [← slice_one (by omega), le16_rdLe16_eq_slice (by omega), le64_rdLe64_eq_slice (by omega),
    le32_rdLe32_eq_slice (by omega), slice_append_slice, slice_append_slice, slice_append_slice, slice_zero,
    List.take_of_length_le (by omega)]

/-- Likewise 13 bytes and the session fields. -/
theorem sessionFixed_of_length {x : List Byte} (h : x.length = 13) :
    x = [byteAt x 0] ++ le64 (rdLe64 x 1) ++ le32 (rdLe32 x 9) := by
  rw [← slice_one (by omega), le64_rdLe64_eq_slice (by omega), le32_rdLe32_eq_slice (by omega), slice_append_slice,
    slice_append_slice, slice_zero, List.take_of_length_le (by omega)]

/-- Likewise 4 bytes and a block header. -/
theorem header_of_length {x : List Byte} (h : x.length = 4) : x = le16 (rdLe16 x 0) ++ le16 (rdLe16 x 2) := by
  rw [le16_rdLe16_eq_slice (by omega), le16_rdLe16_eq_slice (by omega), slice_append_slice, slice_zero,
    List.take_of_length_le (by omega)]

/-- Likewise 4 bytes and a CRC. -/
theorem crcField_of_length {x : List Byte} (h : x.length = 4) : x = le32 (rdLe32 x 0) := by
  rw [le32_rdLe32_eq_slice (by omega), slice_zero, List.take_of_length_le (by omega)]

theorem move_rxReadHsFixed (hs : s.state = .rReadHsFixed) (b : Byte) : Move i s (rxReadHsFixed b s) := by
  by_cases hlen : s.r_buf.length = 14
  · have hbuf := (length_concat_eq_iff s.r_buf b 14).mpr hlen
    rw [rxReadHsFixed_of_complete (handshakeFixed_of_length hbuf)]
    split_ifs with hn
    · rw [hn]
      exact .fixedNoName _ _ _ _ hs hbuf
    · exact .fixedName _ _ _ _ hs hn
  · exact rxReadHsFixed_of_incomplete hlen b ▸ .buffered b (.inl ⟨hs, hlen⟩)

theorem move_rxReadHsName (hs : s.state = .rReadHsName) (b : Byte) : Move i s (rxReadHsName b s) := by
  rw [rxReadHsName_eq]
  split_ifs with hlen
  · exact .nameComplete b hs hlen
  · exact .nameByte b hs hlen

theorem move_rxReadSess (hs : s.state = .rReadSess) (b : Byte) : Move i s (rxReadSess b s) := by
  by_cases hlen : s.r_buf.length = 12
  · have hbuf := (length_concat_eq_iff s.r_buf b 12).mpr hlen
    rw [rxReadSess_of_complete (sessionFixed_of_length hbuf)]
    split
    · exact .session _ hs hbuf
    · exact .badSession _ hs hbuf
  · exact rxReadSess_of_incomplete hlen b ▸ .buffered b (.inr (.inl ⟨hs, hlen⟩))

theorem move_rxBlkHdr (hs : s.state = .rBlkHdr) (b : Byte) : Move i s (rxBlkHdr b s) := by
  by_cases hlen : s.r_buf.length = 3
  · have hbuf := (length_concat_eq_iff s.r_buf b 3).mpr hlen
    exact rxBlkHdr_of_complete (header_of_length hbuf) ▸ .header _ _ hs
  · exact rxBlkHdr_of_incomplete hlen b ▸ .buffered b (.inr (.inr ⟨.inl hs, hlen⟩))

theorem move_rxBlkPayload (hs : s.state = .rBlkPayload) (b : Byte) : Move i s (rxBlkPayload b s) := by
  rw [rxBlkPayload_eq]
  split_ifs with hlen
  · exact .payloadComplete b hs hlen
  · exact .payloadByte b hs hlen

theorem move_rxBlkCrc (hs : s.state = .rBlkCrc) (b : Byte) : Move i s (rxBlkCrc b s) := by
  by_cases hlen : s.r_buf.length = 3
  · have hbuf := (length_concat_eq_iff s.r_buf b 3).mpr hlen
    rw [rxBlkCrc_of_complete (crcField_of_length hbuf)]
    split_ifs with hgood
    · exact acceptBlock_eq _ ▸ .accepted _ hs hbuf hgood.1
    · exact rejectBlock_eq _ ▸ .rejected _ _ hs hbuf
  · exact rxBlkCrc_of_incomplete hlen b ▸ .buffered b (.inr (.inr ⟨.inr hs, hlen⟩))

theorem move_rxArm {arm : Byte → State → State} (h : rxArm s.state = some arm) (b : Byte) : Move i s (arm b s) := by
  cases hs : s.state <;> rw [hs] at h
  case sAwaitHsAck => exact Option.some.inj h ▸ move_rxAwaitHsAck hs b
  case sAwaitResp => exact Option.some.inj h ▸ move_rxAwaitResp hs b
  case sAwaitFinal => exact Option.some.inj h ▸ move_rxAwaitFinal hs b
  case rSyncHs => exact Option.some.inj h ▸ move_rxSyncHs hs b
  case rReadHsFixed => exact Option.some.inj h ▸ move_rxReadHsFixed hs b
  case rReadHsName => exact Option.some.inj h ▸ move_rxReadHsName hs b
  case rSyncSess => exact Option.some.inj h ▸ move_rxSyncSess hs b
  case rReadSess => exact Option.some.inj h ▸ move_rxReadSess hs b
  case rBlkHdr => exact Option.some.inj h ▸ move_rxBlkHdr hs b
  case rBlkPayload => exact Option.some.inj h ▸ move_rxBlkPayload hs b
  case rBlkCrc => exact Option.some.inj h ▸ move_rxBlkCrc hs b
  all_goals exact nomatch h

theorem move_timeoutArm {arm : State → State} (h : timeoutArm s.state = some arm) : Move i s (arm s) := by
  cases hs : s.state <;> rw [hs] at h
  case sAwaitResp => exact Option.some.inj h ▸ move_attemptFailed hs
  case sAwaitFinal => exact Option.some.inj h ▸ move_raiseFatal (k := .integrityFile) hs (by unfold FatalFrom; decide)
  case sAwaitHsAck | rSyncHs | rSyncSess | rReadHsFixed | rReadHsName | rReadSess | rBlkHdr | rBlkPayload | rBlkCrc =>
    exact Option.some.inj h ▸ move_raiseFatal (k := .linkTimeout) hs (by unfold FatalFrom; decide)
  all_goals exact nomatch h

end Arms

/- Every command: its next state and what it is. -/

/-- What a command can have done: the units and a response, a move and the OK response, or RESET. -/
inductive Stepped (i : Instr) (s : State) : State → Prop
  | unit (u : UnitRegs) (refused : Bool) (r : Response)
      (hscanner : ScannerInv s → ScannerInv (unitStep u refused r s)) : Stepped i s (unitStep u refused r s)
  | moved (u : State) (hmove : Move i s u) : Stepped i s { u with responses := Spec.ok u }
  | reset (hi : i = .reset) :
      Stepped i s
        { State.reset with
          params := s.params, cmd_port := s.cmd_port, outputs := s.outputs ++ Spec.stopped s,
          responses := Spec.ok s }

/-- The command has a next state, and it is one of those. -/
def Completes (i : Instr) (s : State) : Prop := ∃ t, exec i s = .next t ∧ Stepped i s t

section Commands

variable {i : Instr} {s : State}

theorem completes_of_response {r : Response} (h : exec i s = .next { s with responses := s.responses ++ [r] }) :
    Completes i s :=
  ⟨_, h, .unit (unitRegs s) false r id⟩

theorem completes_of_refused (h : exec i s = .next (Spec.refused s)) : Completes i s :=
  ⟨_, h, .unit (unitRegs s) true ⟨.rejected, []⟩ id⟩

theorem completes_of_move {u : State} (h : exec i s = accepted u) (hmove : Move i s u) : Completes i s :=
  ⟨_, h.trans (accepted_eq_next u), .moved u hmove⟩

theorem completes_of_failed {k : ErrorCode} (h : exec i s = .next (Spec.failed k s)) (hk : FatalFrom s.state k) :
    Completes i s :=
  completes_of_move (h.trans (accepted_raiseFatal k s).symm) (.fatal k hk)

theorem completes_syncFeed (b : Byte) (s : State) : Completes (.syncFeed b) s := by
  cases harmed : s.sc_armed with
  | false => exact completes_of_refused (exec_syncFeed_of_unarmed harmed b)
  | true =>
    by_cases hmagic : lastN 4 (s.sc_win ++ [b]) = magicBytes s.sc_magic
    · exact ⟨_, exec_syncFeed_of_match harmed hmagic,
        .unit { unitRegs s with sc_win := [], sc_armed := false, sc_matched := true } false ⟨.ok, [1]⟩
          fun _ => ⟨Nat.zero_le 4, nofun, fun _ => rfl⟩⟩
    · refine ⟨_, exec_syncFeed_of_no_match harmed hmagic,
        .unit { unitRegs s with sc_win := lastN 4 (s.sc_win ++ [b]), sc_matched := false } false ⟨.ok, [0]⟩
          fun _ => ⟨?_, fun _ => rfl, fun hunarmed => nomatch harmed.symm.trans hunarmed⟩⟩
      exact (lastN_length 4 _).trans_le (Nat.min_le_left 4 _)

theorem completes_sStart (blockSize maxAttempts : Half) (s : State) : Completes (.sStart blockSize maxAttempts) s := by
  have hexec := exec_sStart blockSize maxAttempts s
  by_cases hs : s.state = .idle
  · rw [if_pos hs] at hexec
    by_cases hzero : blockSize = 0 ∨ maxAttempts = 0
    · exact completes_of_move (senderStart_of_zero hzero s ▸ hexec) (.startFatal hs)
    · obtain ⟨hblock, hatt⟩ := not_or.mp hzero
      exact completes_of_move (senderStart_of_nonzero hblock hatt s ▸ hexec) (.startSender _ _ hs hblock hatt)
  · exact completes_of_refused (hexec.trans (if_neg hs))

theorem completes_rStart (s : State) : Completes .rStart s := by
  have hexec := exec_rStart s
  by_cases hs : s.state = .idle
  · exact completes_of_move (hexec.trans (if_pos hs)) (.startReceiver hs)
  · exact completes_of_refused (hexec.trans (if_neg hs))

theorem completes_modeDone (ok : Byte) (s : State) : Completes (.modeDone ok) s := by
  by_cases hsender : s.state = .sModePending
  · by_cases hzero : ok = 0
    · exact completes_of_move (exec_modeDone_of_sModePending hsender (.inl hzero))
        (hzero ▸ move_raiseFatal (k := .linkTimeout) hsender (by unfold FatalFrom; decide))
    · by_cases hone : ok = 1
      · exact completes_of_move (exec_modeDone_of_sModePending hsender (.inr hone)) (hone ▸ .modeEntered hsender)
      · exact completes_of_refused (exec_modeDone_of_bad_operand hzero hone s)
  · by_cases hreceiver : s.state = .rModePending
    · by_cases hzero : ok = 0
      · exact completes_of_move (exec_modeDone_of_rModePending hreceiver (.inl hzero))
          (hzero ▸ move_raiseFatal (k := .linkTimeout) hreceiver (by unfold FatalFrom; decide))
      · by_cases hone : ok = 1
        · exact completes_of_move (exec_modeDone_of_rModePending hreceiver (.inr hone)) (hone ▸ .syncing hreceiver)
        · exact completes_of_refused (exec_modeDone_of_bad_operand hzero hone s)
    · exact completes_of_refused (exec_modeDone_of_not_pending hsender hreceiver ok)

theorem completes_sFileData (data : List Byte) (s : State) : Completes (.sFileData data) s := by
  have hexec := exec_sFileData data s
  by_cases hs : s.state = .sModeEntered
  · rw [if_pos hs] at hexec
    by_cases hfits : s.s_total.toNat + data.length < 2 ^ 64
    · exact completes_of_move (senderFileData_of_fits hfits ▸ hexec) (.fileData _ _ hs)
    · exact completes_of_move (senderFileData_of_too_long (Nat.le_of_not_lt hfits) ▸ hexec)
        (move_raiseFatal hs (by unfold FatalFrom; decide))
  · exact completes_of_refused (hexec.trans (if_neg hs))

theorem completes_sFileEnd (name : List Byte) (s : State) : Completes (.sFileEnd name) s := by
  have hexec := exec_sFileEnd name s
  by_cases hs : s.state = .sModeEntered
  · exact completes_of_move (senderFileEnd_eq name s ▸ hexec.trans (if_pos hs)) (.fileEnd name rfl hs)
  · exact completes_of_refused (hexec.trans (if_neg hs))

theorem move_senderBlockData {i : Instr} {s : State} (hs : s.state = .sNeedData) (data : List Byte) :
    Move i s (senderBlockData data s) := by
  by_cases hlen : data.length = s.s_curlen.toNat
  · have hframe : le16 s.s_seq ++ le16 s.s_curlen ++ data ++ le32 (crc data 0) =
        encodeBlock s.s_seq data (crc data 0) := by
      rw [encodeBlock, len16, hlen, BitVec.ofNat_toNat, BitVec.setWidth_eq]
    rw [senderBlockData_of_length hlen, hframe]
    exact .blockData data hs hlen
  · exact senderBlockData_of_wrong_length hlen ▸ move_raiseFatal hs (by unfold FatalFrom; decide)

theorem completes_sBlockData (data : List Byte) (s : State) : Completes (.sBlockData data) s := by
  have hexec := exec_sBlockData data s
  by_cases hs : s.state = .sNeedData
  · exact completes_of_move (hexec.trans (if_pos hs)) (move_senderBlockData hs data)
  · exact completes_of_refused (hexec.trans (if_neg hs))

theorem completes_evRx (b : Byte) (s : State) : Completes (.evRx b) s := by
  cases harm : rxArm s.state with
  | some arm => exact completes_of_move (execEvRx_of_arm b harm) (move_rxArm harm b)
  | none =>
    have hreading : s.state ∉ Spec.readingStates := by
      rw [← rxArm_isSome_iff, harm]
      nofun
    exact completes_of_response (exec_evRx_not_taken hreading b)

/-- The one command that may find no meaning: a deadline armed in a state without an arm (R357; log 6). -/
theorem completes_evTimeout {s : State} (h : s.timer_kind ≠ .none → (timeoutArm s.state).isSome = true) :
    Completes .evTimeout s := by
  by_cases htimer : s.timer_kind = .none
  · exact completes_of_response (exec_evTimeout_not_taken htimer)
  · obtain ⟨arm, harm⟩ := Option.isSome_iff_exists.mp (h htimer)
    exact completes_of_move (execEvTimeout_of_arm harm htimer) (move_timeoutArm harm)

theorem errorFits_abort (c : StateCode) :
    errorFits (failedState (stateRole c)) .ioError = true ∧
      errorFits (failedState (stateRole c)) .interrupted = true := by
  cases stateRole c <;> exact ⟨rfl, rfl⟩

theorem completes_evIoError (s : State) : Completes .evIoError s := by
  have hexec := exec_evIoError s
  by_cases henabled : s.state ≠ .idle ∧ stateKind s.state ≠ .terminal
  · obtain ⟨hidle, hterminal⟩ := henabled
    obtain ⟨hfits, -⟩ := errorFits_abort s.state
    exact completes_of_failed (hexec.trans (if_pos ⟨hidle, hterminal⟩)) ⟨hidle, hterminal, hfits, nofun⟩
  · exact completes_of_response (hexec.trans (if_neg henabled))

theorem completes_evAbort (s : State) : Completes .evAbort s := by
  have hexec := exec_evAbort s
  by_cases henabled : s.state ≠ .idle ∧ stateKind s.state ≠ .terminal
  · obtain ⟨hidle, hterminal⟩ := henabled
    obtain ⟨-, hfits⟩ := errorFits_abort s.state
    exact completes_of_failed (hexec.trans (if_pos ⟨hidle, hterminal⟩)) ⟨hidle, hterminal, hfits, nofun⟩
  · exact completes_of_response (hexec.trans (if_neg henabled))

theorem exec_regRead_of_reserved {addr : Byte} {s : State} (h : regValue s addr = none) :
    exec (.regRead addr) s = .next (Spec.refused s) := by
  rw [exec_regRead, execRegRead, h, refuse_eq_next]

theorem completes_regRead (addr : Byte) (s : State) : Completes (.regRead addr) s := by
  cases hv : regValue s addr with
  | some v => exact completes_of_response (exec_regRead_of_regValue hv)
  | none => exact completes_of_refused (exec_regRead_of_reserved hv)

/-- Every command completes, EV_TIMEOUT where its armed deadline has an arm. -/
theorem completes {i : Instr} {s : State}
    (h : i = .evTimeout → s.timer_kind ≠ .none → (timeoutArm s.state).isSome = true) : Completes i s := by
  cases i with
  | crcInit seed => exact ⟨_, exec_crcInit seed s, .unit { unitRegs s with crc_unit := seed } false ⟨.ok, []⟩ id⟩
  | crcFeed data =>
    exact ⟨_, exec_crcFeed data s, .unit { unitRegs s with crc_unit := crc data s.crc_unit } false ⟨.ok, []⟩ id⟩
  | syncArm m =>
    exact ⟨_, exec_syncArm m s,
      .unit { unitRegs s with sc_magic := m, sc_win := [], sc_armed := true, sc_matched := false } false ⟨.ok, []⟩
        fun _ => ⟨Nat.zero_le 4, fun _ => rfl, nofun⟩⟩
  | crcRead => exact completes_of_response (exec_crcRead s)
  | encHs total fcrc name => exact completes_of_response (exec_encHs total fcrc name s)
  | decHs x => exact completes_of_response (exec_decHs x s)
  | encSess total fcrc => exact completes_of_response (exec_encSess total fcrc s)
  | decSess x => exact completes_of_response (exec_decSess x s)
  | encBlk seq bcrc payload => exact completes_of_response (exec_encBlk seq bcrc payload s)
  | decBlk x => exact completes_of_response (exec_decBlk x s)
  | tokClass b => exact completes_of_response (exec_tokClass b s)
  | finClass b0 b1 => exact completes_of_response (exec_finClass b0 b1 s)
  | syncFeed b => exact completes_syncFeed b s
  | sStart blockSize maxAttempts => exact completes_sStart blockSize maxAttempts s
  | rStart => exact completes_rStart s
  | modeDone ok => exact completes_modeDone ok s
  | sFileData data => exact completes_sFileData data s
  | sFileEnd name => exact completes_sFileEnd name s
  | sBlockData data => exact completes_sBlockData data s
  | evRx b => exact completes_evRx b s
  | evTimeout => exact completes_evTimeout (h rfl)
  | evIoError => exact completes_evIoError s
  | evAbort => exact completes_evAbort s
  | regRead addr => exact completes_regRead addr s
  | reset => exact ⟨_, exec_reset s, .reset rfl⟩

end Commands

theorem exec_evTimeout_without_arm {s : State} (htimer : s.timer_kind ≠ .none) (harm : timeoutArm s.state = none) :
    exec .evTimeout s = .fault .timeoutWithoutArm := by
  change execEvTimeout s = _
  rw [execEvTimeout]
  split
  · exact absurd ‹_› htimer
  · rw [harm]

/-- A command completes, or is an EV_TIMEOUT that faults (log 6); none is refused by the model. -/
theorem completes_or_fault (i : Instr) (s : State) : Completes i s ∨ exec i s = .fault .timeoutWithoutArm := by
  by_cases h : i = .evTimeout → s.timer_kind ≠ .none → (timeoutArm s.state).isSome = true
  · exact .inl (completes h)
  · obtain ⟨rfl, hfaults⟩ := Classical.not_imp.mp h
    obtain ⟨htimer, harm⟩ := Classical.not_imp.mp hfaults
    exact .inr (exec_evTimeout_without_arm htimer (Option.not_isSome_iff_eq_none.mp harm))

/-- The inversion of `exec`: whatever next state it answers is of the list. -/
theorem stepped_of_exec {i : Instr} {s t : State} (h : exec i s = .next t) : Stepped i s t := by
  rcases completes_or_fault i s with ⟨u, hu, hstep⟩ | hfault
  · obtain rfl := Host.Outcome.next.inj (hu.symm.trans h)
    exact hstep
  · exact nomatch hfault.symm.trans h

end Sys2Proof.Laws

/-!
What every command leaves and what it can emit: the parameters, the ports and the sticky flag (10_state.md R35, R70;
30_encoding.md R131), the outputs of every move, and from these the receiver's tokens, the authority of COMMIT and the
finality of a terminal state (44_receiver.md section 6, 60_exceptions.md section 2).
-/

namespace Sys2Proof.Laws

open Sys2Proof Sys2Proof.Machine

/- The frame of a move: the parameters, the standalone units, the sticky flag, the command port and the responses. -/

/-- What a move leaves alone. -/
structure Frame (s u : State) : Prop where
  params : u.params = s.params
  illegal : u.illegal = s.illegal
  units : unitRegs u = unitRegs s
  cmd_port : u.cmd_port = s.cmd_port
  responses : u.responses = s.responses

theorem nextBlock_frame (s : State) : Frame s (nextBlock s) := by
  rw [nextBlock_eq]
  split_ifs <;> exact ⟨rfl, rfl, rfl, rfl, rfl⟩

theorem startRead_frame (c : StateCode) (s : State) : Frame s (startRead c s) := by
  rw [startRead_eq]
  exact ⟨rfl, rfl, rfl, rfl, rfl⟩

theorem hsComplete_frame (s : State) : Frame s (hsComplete s) := by
  rw [hsComplete_eq]
  split <;> exact ⟨rfl, rfl, rfl, rfl, rfl⟩

theorem finalCheck_frame (s : State) : Frame s (finalCheck s) := by
  rw [finalCheck_eq]
  split <;> exact ⟨rfl, rfl, rfl, rfl, rfl⟩

theorem blockLoop_frame (s : State) : Frame s (blockLoop s) := by
  rw [blockLoop_eq]
  split
  · exact finalCheck_frame s
  · exact startRead_frame .rBlkHdr s

/-- The fields that a branch writes before it ends in a shared procedure are none of the frame's. -/
theorem Frame.of_eq {s s' u : State} (h : Frame s' u) (hparams : s'.params = s.params)
    (hillegal : s'.illegal = s.illegal)
    (hunits : unitRegs s' = unitRegs s) (hport : s'.cmd_port = s.cmd_port)
    (hresponses : s'.responses = s.responses) : Frame s u :=
  ⟨h.params.trans hparams, h.illegal.trans hillegal, h.units.trans hunits, h.cmd_port.trans hport,
    h.responses.trans hresponses⟩

theorem Move.frame {i : Instr} {s u : State} (h : Move i s u) : Frame s u := by
  cases h with
  | handshakeAcked | blockAcked => exact (nextBlock_frame _).of_eq rfl rfl rfl rfl rfl
  | handshakeFound | sessionFound | fixedName | header | payloadComplete =>
    exact (startRead_frame _ _).of_eq rfl rfl rfl rfl rfl
  | fixedNoName | nameComplete => exact (hsComplete_frame _).of_eq rfl rfl rfl rfl rfl
  | session | accepted | rejected => exact (blockLoop_frame _).of_eq rfl rfl rfl rfl rfl
  | _ => exact ⟨rfl, rfl, rfl, rfl, rfl⟩

/- What a move emits: only the sender's moves transmit frames, and only the final check emits COMMIT. -/

/-- The strings that the receiver may transmit (44_receiver.md section 6). -/
def IsReceiverToken (P : Params) (x : List Byte) : Prop :=
  x = [P.ackByte] ∨ x = [P.nakByte] ∨ x = tokenBytes P.okToken ∨ x = tokenBytes P.noToken

/-- The whole-file CRC has been verified (R307). -/
structure Verified (u : State) : Prop where
  state : u.state = .rCommitted
  crc : u.r_run_crc = u.r_fcrc
  count : u.r_total.toNat ≤ u.r_count

/-- From `s` to `u` the outputs `outs` were emitted; outside the sender's states they transmit tokens only, and COMMIT
among them means that the file was verified. -/
structure Emitted (s u : State) (outs : List Output) : Prop where
  outputs : u.outputs = s.outputs ++ outs
  tokens : stateRole s.state ≠ .sender → ∀ x, Output.tx x ∈ outs → IsReceiverToken s.params x
  commit : Output.commit ∈ outs → Verified u ∧ Output.tx (tokenBytes u.params.okToken) ∈ outs

/-- Outputs that neither transmit nor promote the file. -/
def Silent (outs : List Output) : Prop := (∀ x, Output.tx x ∉ outs) ∧ Output.commit ∉ outs

theorem silent_nil : Silent [] := by simp [Silent]

theorem silent_stopOutputs (k : TimerKind) : Silent (stopOutputs k) := by
  cases k <;> simp [Silent, stopOutputs]

theorem silent_append {xs ys : List Output} : Silent (xs ++ ys) ↔ Silent xs ∧ Silent ys := by
  simp only [Silent, List.mem_append, not_or, forall_and]
  exact and_and_and_comm

theorem Emitted.of_silent {s u : State} {outs : List Output} (houtputs : u.outputs = s.outputs ++ outs)
    (h : Silent outs) : Emitted s u outs :=
  ⟨houtputs, fun _ x hx => absurd hx (h.1 x), fun hc => absurd hc h.2⟩

theorem startRead_emitted (c : StateCode) (s : State) : ∃ outs, Emitted s (startRead c s) outs := by
  rw [startRead_eq]
  refine ⟨_, .of_silent rfl ?_⟩
  split_ifs
  · simp [Silent]
  · exact silent_stopOutputs _

theorem raiseFatal_emitted (k : ErrorCode) (s : State) : ∃ outs, Emitted s (raiseFatal k s) outs := by
  refine ⟨_, .of_silent ((raiseFatal_outputs k s).trans (List.append_assoc _ _ _)) ?_⟩
  exact silent_append.mpr ⟨silent_stopOutputs _, by simp [Silent]⟩

theorem hsComplete_emitted (s : State) : ∃ outs, Emitted s (hsComplete s) outs := by
  rw [hsComplete_eq]
  split
  · refine ⟨_, rfl, fun _ x hx => ?_, fun hc => ?_⟩
    · have hack : x = [s.params.ackByte] := by
        split_ifs at hx <;> simpa using hx
      exact .inl hack
    · split_ifs at hc <;> simp at hc
  · exact raiseFatal_emitted .protocolMismatch s

theorem finalCheck_emitted {s : State} (hcount : s.r_total.toNat ≤ s.r_count) :
    ∃ outs, Emitted s (finalCheck s) outs := by
  have hstop := silent_stopOutputs s.timer_kind
  rw [finalCheck_eq]
  split
  next hcrc =>
    refine ⟨_, rfl, fun _ x hx => ?_, fun _ => ⟨⟨rfl, hcrc, hcount⟩, ?_⟩⟩
    · simp only [List.mem_append, hstop.1 x, false_or, List.mem_cons, Output.tx.injEq, reduceCtorEq, List.not_mem_nil,
        or_false] at hx
      exact .inr (.inr (.inl hx))
    · simp
  next =>
    refine ⟨_, rfl, fun _ x hx => ?_, fun hc => ?_⟩
    · simp only [List.mem_append, hstop.1 x, false_or, List.mem_cons, Output.tx.injEq, reduceCtorEq, List.not_mem_nil,
        or_false] at hx
      exact .inr (.inr (.inr hx))
    · simp [hstop.2] at hc

theorem blockLoop_emitted (s : State) : ∃ outs, Emitted s (blockLoop s) outs := by
  rw [blockLoop_eq]
  split
  next hcount => exact finalCheck_emitted hcount
  next => exact startRead_emitted .rBlkHdr s

theorem nextBlock_emitted (s : State) : ∃ outs, Emitted s (nextBlock s) outs := by
  rw [nextBlock_eq]
  split_ifs <;> exact ⟨_, .of_silent rfl (by simp [Silent])⟩

/-- A branch emits `pre` and ends in a shared procedure. -/
theorem Emitted.after {s s' u : State} {pre : List Output} (h : ∃ outs, Emitted s' u outs)
    (hpre : s'.outputs = s.outputs ++ pre) (hparams : s'.params = s.params) (hstate : s'.state = s.state)
    (htokens : stateRole s.state ≠ .sender → ∀ x, Output.tx x ∈ pre → IsReceiverToken s.params x)
    (hcommit : Output.commit ∉ pre) : ∃ outs, Emitted s u outs := by
  obtain ⟨outs, houtputs, htok, hcom⟩ := h
  refine ⟨pre ++ outs, ?_, fun hrole x hx => ?_, fun hc => ?_⟩
  · rw [houtputs, hpre, List.append_assoc]
  · rw [hparams, hstate] at htok
    exact (List.mem_append.mp hx).elim (htokens hrole x) (htok hrole x)
  · obtain ⟨hverified, hmem⟩ := hcom ((List.mem_append.mp hc).resolve_left hcommit)
    exact ⟨hverified, List.mem_append_right pre hmem⟩

theorem Emitted.of_same_outputs {s s' u : State} (h : ∃ outs, Emitted s' u outs) (houtputs : s'.outputs = s.outputs)
    (hparams : s'.params = s.params) (hstate : s'.state = s.state) : ∃ outs, Emitted s u outs :=
  Emitted.after h (pre := []) (by rw [houtputs, List.append_nil]) hparams hstate nofun nofun

/-- The sender may transmit anything, but not promote. -/
theorem Emitted.of_sender {s u : State} {c : StateCode} {outs : List Output} (hs : s.state = c)
    (hc : stateRole c = .sender) (houtputs : u.outputs = s.outputs ++ outs) (hcommit : Output.commit ∉ outs) :
    ∃ outs, Emitted s u outs :=
  ⟨outs, houtputs, fun hrole => absurd (hs ▸ hc) hrole, fun h => absurd h hcommit⟩

theorem Emitted.of_sender_then {s s' u : State} {c : StateCode} {pre : List Output} (hs : s.state = c)
    (hc : stateRole c = .sender) (h : ∃ outs, Emitted s' u outs) (hpre : s'.outputs = s.outputs ++ pre)
    (hparams : s'.params = s.params) (hstate : s'.state = s.state) (hcommit : Output.commit ∉ pre) :
    ∃ outs, Emitted s u outs :=
  Emitted.after h hpre hparams hstate (fun hrole => absurd (hs ▸ hc) hrole) hcommit

theorem silent_stopped (s : State) : Silent (Spec.stopped s) :=
  stopOutputs_eq_stopped s ▸ silent_stopOutputs s.timer_kind

/-- What the moves emit, branch by branch. -/
theorem Move.emitted {i : Instr} {s u : State} (h : Move i s u) : ∃ outs, Emitted s u outs := by
  have hstop := silent_stopped s
  cases h with
  | startFatal | badToken | badSession => exact Emitted.of_same_outputs (raiseFatal_emitted _ _) rfl rfl rfl
  | fatal | exhausted => exact raiseFatal_emitted _ _
  | startSender | startReceiver | syncing => exact ⟨_, .of_silent rfl (by simp [Silent])⟩
  | modeEntered | fileData | ignored | finalByte | noise | buffered | nameByte | payloadByte =>
    exact ⟨[], .of_silent (List.append_nil _).symm silent_nil⟩
  | fileEnd _ _ hs => exact Emitted.of_sender hs rfl rfl (by simp)
  | blockData _ hs _ => exact Emitted.of_sender hs rfl rfl (by simp)
  | resend hs _ => exact Emitted.of_sender hs rfl rfl (by simp)
  | done hs => exact Emitted.of_sender hs rfl (List.append_assoc _ _ _) (by simp [hstop.2])
  | handshakeAcked hs =>
    exact Emitted.of_sender_then hs rfl (nextBlock_emitted _) (List.append_assoc _ _ _) rfl rfl (by simp [hstop.2])
  | blockAcked hs => exact Emitted.of_sender_then hs rfl (nextBlock_emitted _) rfl rfl rfl hstop.2
  | handshakeFound | sessionFound | fixedName | header | payloadComplete =>
    exact Emitted.of_same_outputs (startRead_emitted _ _) rfl rfl rfl
  | fixedNoName | nameComplete => exact Emitted.of_same_outputs (hsComplete_emitted _) rfl rfl rfl
  | session =>
    refine Emitted.after (blockLoop_emitted _) rfl rfl rfl (fun _ x hx => ?_) fun hc => ?_
    · split_ifs at hx <;> simp at hx
    · split_ifs at hc <;> simp at hc
  | accepted =>
    refine Emitted.after (blockLoop_emitted _) rfl rfl rfl (fun _ x hx => .inl ?_) (by simp)
    simpa using hx
  | rejected =>
    refine Emitted.after (blockLoop_emitted _) rfl rfl rfl (fun _ x hx => .inr (.inl ?_)) (by simp)
    simpa using hx

/- Where a move begins and ends. -/

/-- No move begins in a terminal state (60_exceptions.md R404). -/
theorem Move.not_terminal {i : Instr} {s u : State} (h : Move i s u) : stateKind s.state ≠ .terminal := by
  have hstate : ∀ {c : StateCode}, s.state = c → stateKind c ≠ .terminal → stateKind s.state ≠ .terminal :=
    fun hs hc => hs ▸ hc
  cases h with
  | fatal _ hk => exact hk.2.1
  | ignored hs | noise _ hs => exact hs.elim (hstate · nofun) (hstate · nofun)
  | buffered _ hs => rcases hs with ⟨hs, -⟩ | ⟨hs, -⟩ | ⟨hs | hs, -⟩ <;> exact hstate hs nofun
  | _ => exact hstate ‹s.state = _› (by nofun)

theorem terminal_of_failed {c : StateCode} (h : c = .sFailed ∨ c = .rFailed) : stateKind c = .terminal := by
  rcases h with rfl | rfl <;> rfl

/-- A fatal entry (R403): from fields that left the outputs and the deadline as they were, with an error. -/
def FatalEntry (s u : State) : Prop :=
  ∃ (k : ErrorCode) (s' : State), u = raiseFatal k s' ∧ k ≠ .none ∧ s'.outputs = s.outputs ∧
    s'.timer_kind = s.timer_kind

theorem errorFits_failed_ne_none {r : Role} {k : ErrorCode} (h : errorFits (failedState r) k = true) : k ≠ .none := by
  rintro rfl
  cases r <;> exact nomatch h

theorem nextBlock_state (s : State) : (nextBlock s).state = .sAwaitFinal ∨ (nextBlock s).state = .sNeedData := by
  rw [nextBlock_eq]
  split_ifs
  · exact .inl rfl
  · exact .inr rfl

theorem startRead_state (c : StateCode) (s : State) : (startRead c s).state = c := by
  rw [startRead_eq]

theorem blockLoop_state (s : State) :
    (blockLoop s).state = .rCommitted ∨ (blockLoop s).state = .rKeptPartial ∨ (blockLoop s).state = .rBlkHdr := by
  rw [blockLoop_eq, finalCheck_eq]
  split_ifs
  · exact .inl rfl
  · exact .inr (.inl rfl)
  · exact .inr (.inr (startRead_state _ _))

/-- A handshake is complete with the expected version, or fatally. -/
theorem hsComplete_state_or_fatal (s : State) :
    (hsComplete s).state = .rSyncSess ∨ hsComplete s = raiseFatal .protocolMismatch s := by
  rw [hsComplete_eq]
  split
  · exact .inl rfl
  · exact .inr rfl

/-- The move into a failed state is a fatal entry. -/
theorem Move.fatalEntry {i : Instr} {s u : State} (h : Move i s u) (hfailed : u.state = .sFailed ∨ u.state = .rFailed) :
    FatalEntry s u := by
  have hother : ∀ {c : StateCode}, u.state = c → c ≠ .sFailed → c ≠ .rFailed → FatalEntry s u := by
    rintro c rfl hsender hreceiver
    exact (hfailed.elim hsender hreceiver).elim
  have hsame : s.state = u.state → FatalEntry s u := by
    intro hs
    exact absurd (terminal_of_failed (hs ▸ hfailed)) h.not_terminal
  cases h with
  | startFatal | badToken | badSession | exhausted => exact ⟨_, _, rfl, nofun, rfl, rfl⟩
  | fatal k hk => exact ⟨k, s, rfl, errorFits_failed_ne_none hk.2.2.1, rfl, rfl⟩
  | fileData | ignored | resend | finalByte | noise | buffered | nameByte | payloadByte => exact hsame rfl
  | startSender | startReceiver | modeEntered | fileEnd | blockData | done | syncing => exact hother rfl nofun nofun
  | handshakeAcked | blockAcked => exact (nextBlock_state _).elim (hother · nofun nofun) (hother · nofun nofun)
  | handshakeFound | sessionFound | fixedName | payloadComplete => exact hother (startRead_state _ _) nofun nofun
  | header q n =>
    refine hother (startRead_state _ _) ?_ ?_ <;> split_ifs <;> nofun
  | session | accepted | rejected =>
    rcases blockLoop_state _ with hu | hu | hu <;> exact hother hu nofun nofun
  | fixedNoName | nameComplete =>
    rcases hsComplete_state_or_fatal _ with hu | hu
    · exact hother hu nofun nofun
    · exact ⟨_, _, hu, nofun, rfl, rfl⟩

/- The same for a whole command. -/

section Commands

variable {i : Instr} {s t : State}

theorem Stepped.params (h : Stepped i s t) : t.params = s.params := by
  cases h with
  | moved u hmove => exact hmove.frame.params
  | _ => rfl

theorem Stepped.cmd_port (h : Stepped i s t) : t.cmd_port = s.cmd_port := by
  cases h with
  | moved u hmove => exact hmove.frame.cmd_port
  | _ => rfl

theorem Stepped.responses (h : Stepped i s t) : ∃ r, t.responses = s.responses ++ [r] := by
  cases h with
  | unit _ _ r => exact ⟨r, rfl⟩
  | moved u hmove => exact ⟨⟨.ok, []⟩, congrArg (· ++ _) hmove.frame.responses⟩
  | reset => exact ⟨⟨.ok, []⟩, rfl⟩

/-- The response is written after the outputs, and changes none. -/
theorem Emitted.answered {s u : State} {outs : List Output} (h : Emitted s u outs) (r : List Response) :
    Emitted s { u with responses := r } outs :=
  ⟨h.outputs, h.tokens, fun hc =>
    ⟨⟨(h.commit hc).1.state, (h.commit hc).1.crc, (h.commit hc).1.count⟩, (h.commit hc).2⟩⟩

theorem Stepped.emitted (h : Stepped i s t) : ∃ outs, Emitted s t outs := by
  cases h with
  | unit => exact ⟨[], .of_silent (List.append_nil _).symm silent_nil⟩
  | moved u hmove =>
    obtain ⟨outs, hemitted⟩ := hmove.emitted
    exact ⟨outs, hemitted.answered _⟩
  | reset => exact ⟨_, .of_silent rfl (silent_stopped s)⟩

end Commands

/-- Settles O50: the units only set the flag, a move leaves it. -/
theorem illegalIsSticky : Obligations.IllegalIsSticky := by
  intro i s t hexec hillegal hi
  cases stepped_of_exec hexec with
  | unit u refused r => exact (congrArg (refused || ·) hillegal).trans (Bool.or_true refused)
  | moved u hmove => exact hmove.frame.illegal.trans hillegal
  | reset hreset => exact absurd hreset hi

/-- Settles O54: what a step emits is determined by its two states, and COMMIT among it means verified. -/
theorem commitOnlyAfterVerification : Obligations.CommitOnlyAfterVerification := by
  intro i s t outs hexec houtputs hcommit
  obtain ⟨outs', hemitted⟩ := (stepped_of_exec hexec).emitted
  obtain rfl : outs = outs' := List.append_cancel_left (houtputs.symm.trans hemitted.outputs)
  obtain ⟨⟨hstate, hcrc, hcount⟩, htoken⟩ := hemitted.commit hcommit
  exact ⟨hstate, hcrc, hcount, htoken⟩

/-- Settles O53: by the control invariant the receiver is in none of the sender's states. -/
theorem receiverTransmitsOnlyTokens : Obligations.ReceiverTransmitsOnlyTokens := by
  intro i s t hrole hinv hexec
  obtain ⟨outs, hemitted⟩ := (stepped_of_exec hexec).emitted
  have hreceiver : stateRole s.state ≠ .sender := by
    rw [← hinv.role, hrole]
    nofun
  exact ⟨outs, hemitted.outputs, hemitted.tokens hreceiver⟩

/-- Settles O52: a command that ends in a failed state was a fatal entry, which emits TIMER_STOP and END alone. -/
theorem fatalEntryTransmitsNothing : Obligations.FatalEntryTransmitsNothing := by
  intro i s t _ hexec hterminal hfailed
  cases stepped_of_exec hexec with
  | unit u refused r =>
    exact absurd (terminal_of_failed hfailed) hterminal
  | reset => exact hfailed.elim nofun nofun
  | moved u hmove =>
    obtain ⟨k, s', rfl, hk, houtputs, htimer⟩ := hmove.fatalEntry hfailed
    refine ⟨rfl, hk, ?_⟩
    rw [← stopOutputs_eq_stopped, ← houtputs, ← htimer]
    exact raiseFatal_outputs k s'

/- Completeness (45_control.md R357, R358). -/

/-- Under the control invariant an armed deadline has an arm, so nothing faults. -/
theorem completes_of_controlInv (i : Instr) {s : State} (hinv : ControlInv s) : Completes i s :=
  completes fun _ htimer => (timeoutArm_isSome_iff s.state).mpr (mem_readingStates_of_stateTimer (hinv.timer ▸ htimer))

/-- Settles O51: the command completes, and no move begins in a terminal state. -/
theorem terminalIsFinal : Obligations.TerminalIsFinal := by
  intro i s hinv hterminal hi
  obtain ⟨t, hexec, hstep⟩ := completes_of_controlInv i hinv
  refine ⟨t, hexec, ?_⟩
  cases hstep with
  | unit u refused r => rfl
  | moved u hmove => exact absurd hterminal hmove.not_terminal
  | reset hreset => exact absurd hreset hi

/-- The control invariant is about none of the ports. -/
theorem controlInv_with_cmd_port {s : State} (h : ControlInv s) (port : List (List Byte)) :
    ControlInv { s with cmd_port := port } :=
  ⟨h.notTransient, h.role, h.timer, h.error⟩

/- The step (R351): an empty port, a command refused, or a command run. -/

/-- What a step can have done; what does not decode is refused like a command without effect. -/
theorem step_cases {s t : State} (h : step s = .next t) :
    (s.cmd_port = [] ∧ t = s) ∨
      ∃ cmd rest i, s.cmd_port = cmd :: rest ∧ i.WellFormed ∧ Stepped i { s with cmd_port := rest } t := by
  rw [step, takeCommand] at h
  split at h
  · cases hport : s.cmd_port with
    | nil =>
      rw [hport] at h
      exact .inl ⟨rfl, (Host.Outcome.next.inj h).symm⟩
    | cons cmd rest =>
      rw [hport] at h
      refine .inr ⟨cmd, rest, ?_⟩
      cases hdecode : decode cmd with
      | ok i =>
        obtain ⟨-, hwf⟩ := encodeOfDecode cmd i hdecode
        exact ⟨i, rfl, hwf, stepped_of_exec ((runCommand_of_ok hdecode _).symm.trans h)⟩
      | error e =>
        obtain rfl := Host.Outcome.next.inj ((runCommand_of_error hdecode _).symm.trans h)
        exact ⟨.crcRead, rfl, Nat.zero_le _, .unit (unitRegs s) true ⟨.rejected, []⟩ id⟩
  · exact nomatch h

/-- Settles O48: the port loses the command taken, one response is added, and outputs are appended. -/
theorem oneResponsePerCommand : Obligations.OneResponsePerCommand := by
  refine ⟨fun r => ?bytes, fun s t cmd rest hport hstep => ?step⟩
  case bytes =>
    have hstatus : statusByte r.status = Spec.statusNumber r.status := by cases r.status <;> rfl
    rw [responseBytes, hstatus]
  case step =>
    rcases step_cases hstep with ⟨hempty, -⟩ | ⟨cmd', rest', i, hport', -, hcommand⟩
    · exact nomatch hport.symm.trans hempty
    · obtain ⟨rfl, rfl⟩ := List.cons.inj (hport.symm.trans hport')
      obtain ⟨outs, hemitted⟩ := hcommand.emitted
      exact ⟨hcommand.cmd_port, hcommand.responses, outs, hemitted.outputs⟩

/-- The CFG registers are functions of the parameters alone (R69). -/
theorem regValue_cfg {s t : State} (h : t.params = s.params) {a : Byte} (hlow : 0x30 ≤ a.toNat)
    (hhigh : a.toNat ≤ 0x35) : regValue t a = regValue s a := by
  unfold regValue
  interval_cases a.toNat <;> simp only [h]

/-- Settles O49: no command writes the parameters, and the CFG registers are functions of them. -/
theorem parametersAreHardwired : Obligations.ParametersAreHardwired := by
  intro s t hstep
  have hparams : t.params = s.params := by
    rcases step_cases hstep with ⟨-, rfl⟩ | ⟨cmd, rest, i, -, -, hcommand⟩
    · rfl
    · exact hcommand.params
  exact ⟨hparams, fun a => regValue_cfg hparams⟩

/-- A step that is not refused for its parameters is never refused by the model (R12; log 5). -/
theorem step_not_refused {s : State} (hwf : s.params.WellFormed) (r : Refusal) : step s ≠ .refused r := by
  rw [step, takeCommand, if_pos hwf]
  cases s.cmd_port with
  | nil => nofun
  | cons cmd rest =>
    change runCommand cmd _ ≠ _
    cases hdecode : decode cmd with
    | error e =>
      rw [runCommand_of_error hdecode]
      nofun
    | ok i =>
      rw [runCommand_of_ok hdecode]
      rcases completes_or_fault i { s with cmd_port := rest } with ⟨t, ht, -⟩ | hfault
      · rw [ht]
        nofun
      · rw [hfault]
        nofun

/-- Settles O43: ill-formed parameters are refused before the port is read, and nothing else is. -/
theorem stepWithoutCommand : Obligations.StepWithoutCommand := by
  refine ⟨fun s => ⟨fun hrefused hwf => step_not_refused hwf _ hrefused, fun hwf => ?refused⟩,
    fun s hwf hempty => ?rests⟩
  case refused => rw [step, takeCommand, if_neg hwf]
  case rests => rw [step, takeCommand, if_pos hwf, hempty]

/-- Settles O58: under the control invariant every command has a next state, and so has a byte string that is none. -/
theorem everyCommandCompletes : Obligations.EveryCommandCompletes := by
  intro s hinv
  have hcommand : ∀ (i : Instr) {s : State}, ControlInv s → ∃ t, exec i s = .next t := by
    intro i s hinv
    obtain ⟨t, hexec, -⟩ := completes_of_controlInv i hinv
    exact ⟨t, hexec⟩
  refine ⟨fun i => hcommand i hinv, fun hwf => ?_⟩
  cases hport : s.cmd_port with
  | nil =>
    obtain ⟨-, hrests⟩ := stepWithoutCommand
    exact ⟨s, hrests s hwf hport⟩
  | cons cmd rest =>
    rw [step_of_wellFormed hwf hport]
    cases hdecode : decode cmd with
    | ok i => exact runCommand_of_ok hdecode _ ▸ hcommand i (controlInv_with_cmd_port hinv rest)
    | error e => exact ⟨_, runCommand_of_error hdecode _⟩

end Sys2Proof.Laws

/-!
The control invariant (45_control.md R357, 60_exceptions.md R404): every move keeps it, and with it every step; and the
waits in which no deadline is armed (60_exceptions.md R424).
-/

namespace Sys2Proof.Laws

open Sys2Proof Sys2Proof.Machine

/-- Outside the terminal states no error is latched (R404). -/
theorem error_eq_none {s : State} (h : ControlInv s) (hs : stateKind s.state ≠ .terminal) : s.error = .none := by
  have hfits := h.error
  revert hs hfits
  cases s.state <;> simp [stateKind, errorFits]

/-- A fatal entry ends in the failed state of the role, with no deadline (R403). -/
theorem controlInv_raiseFatal {k : ErrorCode} {s : State} (hrole : s.role ≠ .none)
    (hk : errorFits (failedState s.role) k = true) : ControlInv (raiseFatal k s) := by
  have hkind : stateKind (failedState s.role) ≠ .transient := by cases s.role <;> nofun
  have hfailed : s.role = stateRole (failedState s.role) := by
    cases hr : s.role with
    | none => exact absurd hr hrole
    | sender | receiver => rfl
  have htimer : TimerKind.none = stateTimer s.params (failedState s.role) := by cases s.role <;> rfl
  exact ⟨hkind, hfailed, htimer, hk⟩

theorem controlInv_nextBlock {s : State} (hrole : s.role = .sender) (htimer : s.timer_kind = .none)
    (herror : s.error = .none) : ControlInv (nextBlock s) := by
  rw [nextBlock_eq]
  split_ifs
  · exact ⟨nofun, hrole, rfl, herror ▸ rfl⟩
  · exact ⟨nofun, hrole, htimer, herror ▸ rfl⟩

/-- An exact-count read rests in a read state, with its deadline if the policy has one (R317). -/
theorem controlInv_startRead {c : StateCode} {s : State} (hc : readState c = true) (hrole : s.role = .receiver)
    (herror : s.error = .none) : ControlInv (startRead c s) := by
  rw [startRead_eq]
  cases c with
  | rReadHsFixed | rReadHsName | rReadSess | rBlkHdr | rBlkPayload | rBlkCrc => exact ⟨nofun, hrole, rfl, herror ▸ rfl⟩
  | _ => exact nomatch hc

theorem controlInv_hsComplete {s : State} (hrole : s.role = .receiver) (herror : s.error = .none) :
    ControlInv (hsComplete s) := by
  rw [hsComplete_eq]
  split
  · exact ⟨nofun, hrole, rfl, herror ▸ rfl⟩
  · exact controlInv_raiseFatal (hrole ▸ nofun) (hrole ▸ rfl)

theorem controlInv_blockLoop {s : State} (hrole : s.role = .receiver) (herror : s.error = .none) :
    ControlInv (blockLoop s) := by
  rw [blockLoop_eq, finalCheck_eq]
  split_ifs
  · exact ⟨nofun, hrole, rfl, beq_iff_eq.mpr herror⟩
  · exact ⟨nofun, hrole, rfl, rfl⟩
  · exact controlInv_startRead rfl hrole herror

/-- Every move keeps the control invariant. -/
theorem move_controlInv {i : Instr} {s u : State} (hinv : ControlInv s) (h : Move i s u) : ControlInv u := by
  have herror : s.error = .none := error_eq_none hinv h.not_terminal
  have hrole : ∀ {c : StateCode}, s.state = c → s.role = stateRole c := fun hs => hs ▸ hinv.role
  have htimer : ∀ {c : StateCode}, s.state = c → s.timer_kind = stateTimer s.params c := fun hs => hs ▸ hinv.timer
  have hfits : ∀ {c : StateCode}, errorFits c .none = true → errorFits c s.error = true := fun hc => herror ▸ hc
  cases h with
  | fileData | ignored | finalByte | noise | buffered | nameByte | payloadByte =>
    exact ⟨hinv.notTransient, hinv.role, hinv.timer, hinv.error⟩
  | startFatal hs => exact controlInv_raiseFatal nofun rfl
  | startSender _ _ hs | startReceiver hs => exact ⟨nofun, rfl, (htimer hs :), hfits rfl⟩
  | fatal k hk =>
    obtain ⟨hidle, -, hk, -⟩ := hk
    refine controlInv_raiseFatal ?_ (hinv.role ▸ hk)
    rw [hinv.role]
    revert hidle
    cases s.state <;> simp [stateRole]
  | exhausted hs _ | badToken _ _ hs => exact controlInv_raiseFatal (hrole hs ▸ nofun) (hrole hs ▸ rfl)
  | badSession _ hs _ => exact controlInv_raiseFatal (hrole hs ▸ nofun) (hrole hs ▸ rfl)
  | modeEntered hs => exact ⟨nofun, (hrole hs :), (htimer hs :), hfits rfl⟩
  | fileEnd _ _ hs | blockData _ hs _ | done hs => exact ⟨nofun, (hrole hs :), rfl, hfits rfl⟩
  | resend hs _ => exact ⟨hinv.notTransient, hinv.role, hs ▸ rfl, hinv.error⟩
  | handshakeAcked hs | blockAcked hs => exact controlInv_nextBlock (hrole hs) rfl herror
  | syncing hs => exact ⟨nofun, (hrole hs :), rfl, hfits rfl⟩
  | handshakeFound hs | sessionFound hs | fixedName _ _ _ _ hs _ | payloadComplete _ hs _ =>
    exact controlInv_startRead rfl (hrole hs) herror
  | header _ n hs =>
    refine controlInv_startRead ?_ (hrole hs) herror
    split_ifs <;> rfl
  | fixedNoName _ _ _ _ hs _ | nameComplete _ hs _ => exact controlInv_hsComplete (hrole hs) herror
  | session _ hs _ | accepted _ hs _ _ | rejected _ _ hs _ => exact controlInv_blockLoop (hrole hs) herror

/-- So does every command: the units and the response are none of its fields, and RESET returns to IDLE. -/
theorem stepped_controlInv {i : Instr} {s t : State} (hinv : ControlInv s) (h : Stepped i s t) : ControlInv t := by
  cases h with
  | unit => exact ⟨hinv.notTransient, hinv.role, hinv.timer, hinv.error⟩
  | moved u hmove =>
    obtain ⟨hkind, hrole, htimer, herror⟩ := move_controlInv hinv hmove
    exact ⟨hkind, hrole, htimer, herror⟩
  | reset => exact ⟨nofun, rfl, rfl, rfl⟩

/-- Settles O55: an empty port rests, and every command keeps the invariant. -/
theorem stepKeepsControlInv : Obligations.StepKeepsControlInv := by
  intro s t hinv hstep
  rcases step_cases hstep with ⟨-, rfl⟩ | ⟨cmd, rest, i, -, -, hcommand⟩
  · exact hinv
  · exact stepped_controlInv (controlInv_with_cmd_port hinv rest) hcommand

/- The waits without a deadline (R424). -/

theorem mem_waits_iff (P : Params) (c : StateCode) :
    c ∈ waitsWithoutDeadline P ↔
      c ∈ [StateCode.sModePending, .rModePending, .sModeEntered, .sNeedData] ∨
        (P.rxReadDeadline = false ∧
          c ∈ [StateCode.rReadHsFixed, .rReadHsName, .rReadSess, .rBlkHdr, .rBlkPayload, .rBlkCrc]) := by
  unfold waitsWithoutDeadline
  cases P.rxReadDeadline <;> simp [or_assoc]

/-- Settles O60: the listed waits are the resting states in which no deadline is armed; the armed ones are taken. -/
theorem waitsWithoutDeadline : Obligations.WaitsWithoutDeadline := by
  intro s hinv
  refine ⟨mem_waits_iff s.params s.state, fun hwait => ?notTaken, fun hidle hterminal hwait => ?taken⟩
  case notTaken =>
    obtain ⟨-, -, htimer⟩ := (mem_waitsWithoutDeadline s.params s.state).mp hwait
    exact exec_evTimeout_not_taken (hinv.timer.trans htimer)
  case taken =>
    have hresting : stateKind s.state = .resting := by
      have hnot := mt (stateKind_eq_terminal_iff s.state).mp hterminal
      cases hk : stateKind s.state with
      | resting => rfl
      | transient => exact absurd hk hinv.notTransient
      | terminal => exact absurd hk hnot
    have harmed : s.timer_kind ≠ .none := by
      rw [hinv.timer]
      exact fun htimer => hwait ((mem_waitsWithoutDeadline _ _).mpr ⟨hresting, hidle, htimer⟩)
    exact ⟨harmed, exec_evTimeout_taken hinv harmed⟩

end Sys2Proof.Laws

/-!
The engine invariant. An engine is IDLE, a sender or a receiver; the other role's fields are at their reset values, and
its own hold what its state says. In these terms every move keeps the invariant (43_sender.md section 5,
44_receiver.md section 6).
-/

namespace Sys2Proof.Laws

open Sys2Proof Sys2Proof.Machine

/- The sender's side of the invariant, by the state. -/

/-- What bounds the sender's fields in every state (10_state.md section 2). -/
structure SenderBounds (s : State) : Prop where
  sent : s.s_sent.toNat ≤ s.s_total.toNat
  fin : s.s_fin.length ≤ 2
  name : s.s_name.length ≤ 65535
  frame : s.s_frame.length ≤ 65543

/-- A block is being sent: its length, that there is one, and its place in the file (R246, R254). -/
structure BlockDue (s : State) : Prop where
  curlen : s.s_curlen.toNat = min s.s_block.toNat (s.s_total.toNat - s.s_sent.toNat)
  unsent : s.s_sent ≠ s.s_total
  place : ∃ k, s.s_sent.toNat = k * s.s_block.toNat ∧ s.s_seq.toNat = k % 65536

/-- The attempts at the current block: at least one, within the limit, each the same frame (R251, R255). -/
structure Attempted (s : State) : Prop where
  one_le : 1 ≤ s.s_att.toNat
  le_max : s.s_att.toNat ≤ s.s_maxatt.toNat
  frame : ∃ data : List Byte, data.length = s.s_curlen.toNat ∧ s.s_frame = encodeBlock s.s_seq data (crc data 0)
  frames : blockFrames s.outputs = List.replicate s.s_att.toNat s.s_frame

/-- What the sender's fields hold in each state. -/
def SenderPhase (s : State) : StateCode → Prop
  | .sModePending | .sModeEntered | .sAwaitHsAck => s.s_sent = 0 ∧ s.s_att = 0
  | .sNeedData => BlockDue s ∧ s.s_att = 0 ∧ blockFrames s.outputs = []
  | .sAwaitResp => BlockDue s ∧ Attempted s
  | .sAwaitFinal => s.s_att = 0 ∧ s.s_sent = s.s_total ∧ s.s_fin.length ≤ 1
  | .sDone => s.s_att = 0 ∧ s.s_sent = s.s_total ∧ s.s_fin = tokenBytes s.params.okToken
  | _ => True

/-- The retry limit was reached by that many transmissions of the frame (R251). -/
def ExhaustedInv (s : State) : Prop :=
  s.error = .retryExhausted → blockFrames s.outputs = List.replicate s.s_maxatt.toNat s.s_frame

/-- An engine in the sender's role. -/
structure SenderSide (s : State) : Prop where
  role : s.role = .sender
  other : receiverAtReset s ∧ s.temp_open = false
  configured : s.state ≠ .sFailed → s.s_block ≠ 0 ∧ s.s_maxatt ≠ 0
  bounds : SenderBounds s
  phase : SenderPhase s s.state
  exhausted : ExhaustedInv s

/- The receiver's side, by the state. -/

/-- What bounds the receiver's fields in every state (10_state.md section 3). -/
structure ReceiverBounds (s : State) : Prop where
  window : s.e_win.length ≤ 4
  buffer : s.r_buf.length ≤ 15
  name : s.r_name.length ≤ 65535
  payload : s.r_payload.length ≤ 65535
  count : s.r_count < s.r_total.toNat + 65536

/-- No block has been accepted yet. -/
def NoBlockYet (s : State) : Prop := s.r_exp_seq = 0 ∧ s.r_count = 0 ∧ s.r_run_crc = 0

/-- The handshake has been acknowledged (R296, R298). -/
def HandshakeAcked (s : State) : Prop :=
  s.r_version = s.params.protoVersion ∧ s.temp_open = (s.params.openTempAt == .handshakeParsed)

/-- The block loop goes on (R301). -/
def Looping (s : State) : Prop :=
  s.r_version = s.params.protoVersion ∧ s.r_count < s.r_total.toNat ∧ s.temp_open = true

/-- What the receiver's fields hold in each state. -/
def ReceiverPhase (s : State) : StateCode → Prop
  | .rModePending | .rSyncHs => NoBlockYet s ∧ s.temp_open = false
  | .rReadHsFixed => NoBlockYet s ∧ s.temp_open = false ∧ s.r_buf.length ≤ 14
  | .rReadHsName => NoBlockYet s ∧ s.temp_open = false ∧ s.r_name.length < s.r_name_len.toNat
  | .rSyncSess => NoBlockYet s ∧ HandshakeAcked s
  | .rReadSess => NoBlockYet s ∧ HandshakeAcked s ∧ s.r_buf.length ≤ 12
  | .rBlkHdr => Looping s ∧ s.r_buf.length ≤ 3
  | .rBlkPayload => Looping s ∧ s.r_payload.length < s.r_blk_len.toNat
  | .rBlkCrc => Looping s ∧ s.r_buf.length ≤ 3 ∧ s.r_payload.length = s.r_blk_len.toNat
  | .rCommitted => s.temp_open = true ∧ s.r_total.toNat ≤ s.r_count ∧ s.r_run_crc = s.r_fcrc
  | .rKeptPartial => s.temp_open = true ∧ s.r_total.toNat ≤ s.r_count ∧ s.r_run_crc ≠ s.r_fcrc
  | _ => True

/-- An engine in the receiver's role. -/
structure ReceiverSide (s : State) : Prop where
  role : s.role = .receiver
  other : senderAtReset s
  bounds : ReceiverBounds s
  phase : ReceiverPhase s s.state
  tempFile : TempFileInv s

/- A role's invariant holds of its fields at reset in a state of no role or of the other one. -/

section OtherRole

variable {s : State}

theorem senderInv_of_reset (h : senderAtReset s) (hstate : stateRole s.state ≠ .sender) : SenderInv s := by
  have hne : ∀ {c : StateCode} {p : Prop}, stateRole c = .sender → s.state = c → p :=
    fun hc hs => absurd (hs ▸ hc) hstate
  obtain ⟨-, -, htotal, -, hname, -, hatt, hsent, -, hframe, hfin⟩ := id h
  exact
    { otherRole := fun _ => h
      early := fun _ => ⟨hsent, hatt⟩
      sentLe := by rw [hsent]; exact Nat.zero_le _
      configured := fun hs => absurd hs hstate
      current := fun hs => hs.elim (hne rfl) (hne rfl)
      schedule := fun hs => hs.elim (hne rfl) (hne rfl)
      attempts := hne rfl
      noAttempt := fun _ => hatt
      frame := hne rfl
      allSent := fun _ => hsent.trans htotal.symm
      fin := by rw [hfin]; exact ⟨Nat.zero_le _, fun _ => Nat.zero_le _⟩
      token := hne rfl
      bounds := by rw [hname, hframe]; exact ⟨Nat.zero_le _, Nat.zero_le _⟩ }

theorem receiverInv_of_reset (h : receiverAtReset s) (htemp : s.temp_open = false)
    (hstate : stateRole s.state ≠ .receiver) : ReceiverInv s := by
  have hne : ∀ {c : StateCode} {p : Prop}, stateRole c = .receiver → s.state = c → p :=
    fun hc hs => absurd (hs ▸ hc) hstate
  have hblock : ∀ {p : Prop}, blockState s.state = true → p := by
    intro p hs
    revert hs hstate
    cases s.state <;> simp [blockState, stateRole]
  obtain ⟨hwin, hbuf, -, -, -, -, hname, hseq, hcount, hcrc, -, -, hpayload, -⟩ := id h
  exact
    { otherRole := fun _ => ⟨h, htemp⟩
      early := fun _ => ⟨hseq, hcount, hcrc⟩
      window := by rw [hwin]; exact Nat.zero_le _
      buffer := by simp [hbuf]
      name := by rw [hname]; exact ⟨Nat.zero_le _, hne rfl⟩
      payload := by rw [hpayload]; exact ⟨Nat.zero_le _, hne rfl, hne rfl⟩
      version := fun hs => hs.elim (hne rfl) fun hs => hs.elim (hne rfl) hblock
      count := ⟨by rw [hcount]; omega, hblock⟩
      openedEarly := ⟨fun _ _ _ => htemp, fun hs => hs.elim (hne rfl) (hne rfl)⟩
      opened := fun hs => hs.elim hblock fun hs => hs.elim (hne rfl) (hne rfl)
      committed := hne rfl
      keptPartial := hne rfl }

/-- Only the sender's failed state holds the error of the retry limit (R404). -/
theorem attemptInv_of_not_sender (hcontrol : ControlInv s) (hstate : stateRole s.state ≠ .sender) : AttemptInv s := by
  have hne : ∀ {c : StateCode} {p : Prop}, stateRole c = .sender → s.state = c → p :=
    fun hc hs => absurd (hs ▸ hc) hstate
  refine ⟨hne rfl, hne rfl, fun herror => ?_⟩
  have hfits := hcontrol.error
  rw [herror] at hfits
  revert hfits hstate
  cases s.state <;> simp [errorFits, stateRole]

theorem tempFileInv_of_closed (h : s.temp_open = false) : TempFileInv s :=
  fun hopen => nomatch h.symm.trans hopen

end OtherRole

/- Between the invariant and the two sides. -/

section Sides

variable {s : State}

theorem SenderSide.senderInv (h : SenderSide s) : SenderInv s where
  otherRole hrole := absurd h.role hrole
  early hs := by
    have hphase := h.phase
    revert hs hphase
    cases s.state <;> simp +contextual [senderEarly, SenderPhase]
  sentLe := h.bounds.sent
  configured _ := h.configured
  current := by
    rintro (hs | hs) <;> obtain ⟨hdue, -⟩ := (hs ▸ h.phase :) <;> exact ⟨hdue.curlen, hdue.unsent⟩
  schedule := by
    rintro (hs | hs) <;> obtain ⟨hdue, -⟩ := (hs ▸ h.phase :) <;> exact hdue.place
  attempts hs := by
    obtain ⟨-, hatt⟩ := (hs ▸ h.phase :)
    exact ⟨hatt.one_le, hatt.le_max⟩
  noAttempt := by
    rintro (hs | hs | hs)
    · obtain ⟨-, hatt, -⟩ := (hs ▸ h.phase :)
      exact hatt
    all_goals
      obtain ⟨hatt, -⟩ := (hs ▸ h.phase :)
      exact hatt
  frame hs := by
    obtain ⟨-, hatt⟩ := (hs ▸ h.phase :)
    exact hatt.frame
  allSent := by
    rintro (hs | hs) <;> obtain ⟨-, hsent, -⟩ := (hs ▸ h.phase :) <;> exact hsent
  fin := by
    refine ⟨h.bounds.fin, fun hs => ?_⟩
    obtain ⟨-, -, hfin⟩ := (hs ▸ h.phase :)
    exact hfin
  token hs := by
    obtain ⟨-, -, htoken⟩ := (hs ▸ h.phase :)
    exact htoken
  bounds := ⟨h.bounds.name, h.bounds.frame⟩

theorem SenderSide.attemptInv (h : SenderSide s) : AttemptInv s := by
  refine ⟨fun hs => ?_, fun hs => ?_, h.exhausted⟩
  · obtain ⟨-, -, hframes⟩ := (hs ▸ h.phase :)
    exact hframes
  · obtain ⟨-, hatt⟩ := (hs ▸ h.phase :)
    exact hatt.frames

theorem SenderSide.engineInv (h : SenderSide s) (hcontrol : ControlInv s) (hscanner : ScannerInv s) : EngineInv s := by
  have hstate : stateRole s.state ≠ .receiver := by
    rw [← hcontrol.role, h.role]
    nofun
  exact
    { control := hcontrol
      sender := h.senderInv
      receiver := receiverInv_of_reset h.other.1 h.other.2 hstate
      tempFile := tempFileInv_of_closed h.other.2
      attempt := h.attemptInv
      scanner := hscanner }

theorem senderSide_of_engineInv (h : EngineInv s) (hrole : s.role = .sender) : SenderSide s where
  role := hrole
  other := h.receiver.otherRole (hrole ▸ nofun)
  configured := h.sender.configured (h.control.role ▸ hrole)
  bounds := ⟨h.sender.sentLe, h.sender.fin.1, h.sender.bounds.1, h.sender.bounds.2⟩
  phase := by
    have hdue : s.state = .sNeedData ∨ s.state = .sAwaitResp → BlockDue s := fun hs =>
      ⟨(h.sender.current hs).1, (h.sender.current hs).2, h.sender.schedule hs⟩
    cases hs : s.state with
    | sModePending | sModeEntered | sAwaitHsAck => exact h.sender.early (hs ▸ rfl)
    | sNeedData => exact ⟨hdue (.inl hs), h.sender.noAttempt (.inl hs), h.attempt.1 hs⟩
    | sAwaitResp =>
      obtain ⟨hone, hmax⟩ := h.sender.attempts hs
      exact ⟨hdue (.inr hs), hone, hmax, h.sender.frame hs, h.attempt.2.1 hs⟩
    | sAwaitFinal =>
      exact ⟨h.sender.noAttempt (.inr (.inl hs)), h.sender.allSent (.inl hs), h.sender.fin.2 hs⟩
    | sDone => exact ⟨h.sender.noAttempt (.inr (.inr hs)), h.sender.allSent (.inr hs), h.sender.token hs⟩
    | _ => exact trivial
  exhausted := h.attempt.2.2

theorem ReceiverSide.looping (h : ReceiverSide s) (hs : blockState s.state = true) : Looping s := by
  have hphase := h.phase
  revert hs hphase
  cases s.state <;> simp +contextual [blockState, ReceiverPhase]

theorem ReceiverSide.receiverInv (h : ReceiverSide s) : ReceiverInv s where
  otherRole hrole := absurd h.role hrole
  early hs := by
    have hphase := h.phase
    revert hs hphase
    cases s.state <;> simp +contextual [receiverEarly, ReceiverPhase, NoBlockYet]
  window := h.bounds.window
  buffer := by
    refine ⟨h.bounds.buffer, fun hs => ?_, fun hs => ?_, fun hs => ?_⟩
    · obtain ⟨-, -, hbuf⟩ := (hs ▸ h.phase :)
      exact hbuf
    · obtain ⟨-, -, hbuf⟩ := (hs ▸ h.phase :)
      exact hbuf
    · rcases hs with hs | hs
      · obtain ⟨-, hbuf⟩ := (hs ▸ h.phase :)
        exact hbuf
      · obtain ⟨-, hbuf, -⟩ := (hs ▸ h.phase :)
        exact hbuf
  name := by
    refine ⟨h.bounds.name, fun hs => ?_⟩
    obtain ⟨-, -, hname⟩ := (hs ▸ h.phase :)
    exact hname
  payload := by
    refine ⟨h.bounds.payload, fun hs => ?_, fun hs => ?_⟩
    · obtain ⟨-, hpayload⟩ := (hs ▸ h.phase :)
      exact hpayload
    · obtain ⟨-, -, hpayload⟩ := (hs ▸ h.phase :)
      exact hpayload
  version := by
    rintro (hs | hs | hs)
    · obtain ⟨-, hversion, -⟩ := (hs ▸ h.phase :)
      exact hversion
    · obtain ⟨-, ⟨hversion, -⟩, -⟩ := (hs ▸ h.phase :)
      exact hversion
    · exact (h.looping hs).1
  count := ⟨h.bounds.count, fun hs => (h.looping hs).2.1⟩
  openedEarly := by
    refine ⟨fun hs hsync hread => ?_, fun hs => ?_⟩
    · have hphase := h.phase
      revert hs hsync hread hphase
      cases s.state <;> simp +contextual [receiverEarly, ReceiverPhase]
    · rcases hs with hs | hs
      · obtain ⟨-, -, htemp⟩ := (hs ▸ h.phase :)
        exact htemp
      · obtain ⟨-, ⟨-, htemp⟩, -⟩ := (hs ▸ h.phase :)
        exact htemp
  opened := by
    rintro (hs | hs | hs)
    · exact (h.looping hs).2.2
    · obtain ⟨hopen, -⟩ := (hs ▸ h.phase :)
      exact hopen
    · obtain ⟨hopen, -⟩ := (hs ▸ h.phase :)
      exact hopen
  committed hs := by
    obtain ⟨-, hverified⟩ := (hs ▸ h.phase :)
    exact hverified
  keptPartial hs := by
    obtain ⟨-, hkept⟩ := (hs ▸ h.phase :)
    exact hkept

theorem ReceiverSide.engineInv (h : ReceiverSide s) (hcontrol : ControlInv s) (hscanner : ScannerInv s) :
    EngineInv s := by
  have hstate : stateRole s.state ≠ .sender := by
    rw [← hcontrol.role, h.role]
    nofun
  exact
    { control := hcontrol
      sender := senderInv_of_reset h.other hstate
      receiver := h.receiverInv
      tempFile := h.tempFile
      attempt := attemptInv_of_not_sender hcontrol hstate
      scanner := hscanner }

theorem receiverSide_of_engineInv (h : EngineInv s) (hrole : s.role = .receiver) : ReceiverSide s where
  role := hrole
  other := h.sender.otherRole (hrole ▸ nofun)
  bounds := ⟨h.receiver.window, h.receiver.buffer.1, h.receiver.name.1, h.receiver.payload.1, h.receiver.count.1⟩
  phase := by
    obtain ⟨-, hfixed, hsess, hfour⟩ := h.receiver.buffer
    obtain ⟨hclosed, hacked⟩ := h.receiver.openedEarly
    have hloop : blockState s.state = true → Looping s := fun hs =>
      ⟨h.receiver.version (.inr (.inr hs)), h.receiver.count.2 hs, h.receiver.opened (.inl hs)⟩
    have hearly := h.receiver.early
    cases hs : s.state with
    | rModePending | rSyncHs => exact ⟨hearly (hs ▸ rfl), hclosed (hs ▸ rfl) (hs ▸ nofun) (hs ▸ nofun)⟩
    | rReadHsFixed => exact ⟨hearly (hs ▸ rfl), hclosed (hs ▸ rfl) (hs ▸ nofun) (hs ▸ nofun), hfixed hs⟩
    | rReadHsName =>
      exact ⟨hearly (hs ▸ rfl), hclosed (hs ▸ rfl) (hs ▸ nofun) (hs ▸ nofun), h.receiver.name.2 hs⟩
    | rSyncSess => exact ⟨hearly (hs ▸ rfl), h.receiver.version (.inl hs), hacked (.inl hs)⟩
    | rReadSess =>
      exact ⟨hearly (hs ▸ rfl), ⟨h.receiver.version (.inr (.inl hs)), hacked (.inr hs)⟩, hsess hs⟩
    | rBlkHdr => exact ⟨hloop (hs ▸ rfl), hfour (.inl hs)⟩
    | rBlkPayload => exact ⟨hloop (hs ▸ rfl), h.receiver.payload.2.1 hs⟩
    | rBlkCrc => exact ⟨hloop (hs ▸ rfl), hfour (.inr hs), h.receiver.payload.2.2 hs⟩
    | rCommitted => exact ⟨h.receiver.opened (.inr (.inl hs)), h.receiver.committed hs⟩
    | rKeptPartial => exact ⟨h.receiver.opened (.inr (.inr hs)), h.receiver.keptPartial hs⟩
    | _ => exact trivial
  tempFile := h.tempFile

/-- An engine in IDLE has the fields of both roles at reset. -/
theorem engineInv_of_idle (hs : s.state = .idle) (hcontrol : ControlInv s) (hscanner : ScannerInv s)
    (hsender : senderAtReset s) (hreceiver : receiverAtReset s) (htemp : s.temp_open = false) : EngineInv s where
  control := hcontrol
  sender := senderInv_of_reset hsender (hs ▸ nofun)
  receiver := receiverInv_of_reset hreceiver htemp (hs ▸ nofun)
  tempFile := tempFileInv_of_closed htemp
  attempt := attemptInv_of_not_sender hcontrol (hs ▸ nofun)
  scanner := hscanner

end Sides

/-- Settles O57: reset is IDLE with every field at its reset value. -/
theorem resetHasInv : Obligations.ResetHasInv := by
  intro P
  exact engineInv_of_idle rfl ⟨nofun, rfl, rfl, rfl⟩ ⟨Nat.zero_le 4, nofun, fun _ => rfl⟩ (senderAtReset_reset P)
    (receiverAtReset_reset P) rfl

end Sys2Proof.Laws

/-!
Every move keeps the engine invariant: first the shared procedures, each from what the branch that calls it has
established, then the moves, and from them every command and every step.
-/

namespace Sys2Proof.Laws

open Sys2Proof Sys2Proof.Machine

/- The incremental law of the CRC (40_crc.md R161, R162). -/

theorem crc_append (a b : List Byte) (seed : Word) : crc (a ++ b) seed = crc b (crc a seed) := by
  induction a generalizing seed with
  | nil => rfl
  | cons x a ih => exact ih (crcStep seed x)

/- What outputs leave on the temporary file and among the transmissions of the block. -/

theorem tempContent_of_eq {s u : State} {outs : List Output} (h : u.outputs = s.outputs ++ outs)
    (hquiet : ∀ content, outs.foldl tempStep content = content) : tempContent u.outputs = tempContent s.outputs := by
  rw [h, tempContent_append, hquiet]

/-- The temporary file, its count and its CRC unchanged (R305, R311). -/
theorem tempFileInv_of_same {s u : State} (h : TempFileInv s) (hopen : u.temp_open = s.temp_open)
    (hcount : u.r_count = s.r_count) (hcrc : u.r_run_crc = s.r_run_crc)
    (hcontent : tempContent u.outputs = tempContent s.outputs) : TempFileInv u := by
  unfold TempFileInv
  rw [hopen, hcount, hcrc, hcontent]
  exact h

/-- The temporary file has just been opened, and no byte counted (R298). -/
theorem tempFileInv_of_empty {u : State} (hcount : u.r_count = 0) (hcrc : u.r_run_crc = 0)
    (hcontent : tempContent u.outputs = []) : TempFileInv u := by
  intro _
  rw [hcount, hcrc, hcontent]
  exact ⟨rfl, rfl⟩

theorem blockFrames_fatal (outs : List Output) (timer : TimerKind) (k : ErrorCode) :
    blockFrames (outs ++ stopOutputs timer ++ [.endTransfer k]) = blockFrames outs := by
  simp [blockFrames_append, frameStep]

theorem exhaustedInv_of_no_error {s : State} (h : s.error = .none) : ExhaustedInv s :=
  fun herror => nomatch h.symm.trans herror

/- A move that stays in its state is judged by that state. -/

theorem senderSide_of_state {u : State} {c : StateCode} (hs : u.state = c) (hrole : u.role = .sender)
    (hother : receiverAtReset u ∧ u.temp_open = false) (hconfigured : u.s_block ≠ 0 ∧ u.s_maxatt ≠ 0)
    (hbounds : SenderBounds u) (hphase : SenderPhase u c) (herror : u.error = .none) : SenderSide u :=
  ⟨hrole, hother, fun _ => hconfigured, hbounds, hs.symm ▸ hphase, exhaustedInv_of_no_error herror⟩

theorem receiverSide_of_state {u : State} {c : StateCode} (hs : u.state = c) (hrole : u.role = .receiver)
    (hother : senderAtReset u) (hbounds : ReceiverBounds u) (hphase : ReceiverPhase u c) (htemp : TempFileInv u) :
    ReceiverSide u :=
  ⟨hrole, hother, hbounds, hs.symm ▸ hphase, htemp⟩

/- The shared procedures of the sender. -/

section Sender

variable {s : State}

/-- A fatal entry of the sender (R403), and what the retry limit asks of it (R251). -/
theorem senderSide_raiseFatal {k : ErrorCode} (hrole : s.role = .sender)
    (hother : receiverAtReset s ∧ s.temp_open = false) (hbounds : SenderBounds s)
    (hk : k = .retryExhausted → blockFrames s.outputs = List.replicate s.s_maxatt.toNat s.s_frame) :
    SenderSide (raiseFatal k s) := by
  have hstate : (raiseFatal k s).state = .sFailed := by
    rw [raiseFatal_eq, failedState_eq, if_pos hrole]
  exact
    { role := hrole
      other := hother
      configured := fun h => absurd hstate h
      bounds := ⟨hbounds.sent, hbounds.fin, hbounds.name, hbounds.frame⟩
      phase := by rw [hstate]; exact trivial
      exhausted := fun herror => (blockFrames_fatal s.outputs s.timer_kind k).trans (hk herror) }

theorem toNat_nextLen (s : State) :
    (nextLen s).toNat = min s.s_block.toNat (s.s_total.toNat - s.s_sent.toNat) := by
  rw [nextLen, BitVec.toNat_ofNat, Nat.mod_eq_of_lt ((Nat.min_le_left _ _).trans_lt s.s_block.isLt)]

/-- The next block is asked for at a multiple of the block size, or all is sent (R246, R254). -/
theorem senderSide_nextBlock (hrole : s.role = .sender) (hother : receiverAtReset s ∧ s.temp_open = false)
    (hconfigured : s.s_block ≠ 0 ∧ s.s_maxatt ≠ 0) (hbounds : SenderBounds s) (hatt : s.s_att = 0)
    (herror : s.error = .none)
    (hplace : s.s_sent ≠ s.s_total → ∃ k, s.s_sent.toNat = k * s.s_block.toNat ∧ s.s_seq.toNat = k % 65536) :
    SenderSide (nextBlock s) := by
  rw [nextBlock_eq]
  split_ifs with hsent
  · exact
      { role := hrole
        other := hother
        configured := fun _ => hconfigured
        bounds := ⟨hbounds.sent, Nat.zero_le 2, hbounds.name, hbounds.frame⟩
        phase := ⟨hatt, hsent, Nat.zero_le 1⟩
        exhausted := exhaustedInv_of_no_error herror }
  · exact
      { role := hrole
        other := hother
        configured := fun _ => hconfigured
        bounds := ⟨hbounds.sent, hbounds.fin, hbounds.name, hbounds.frame⟩
        phase := ⟨⟨toNat_nextLen s, hsent, hplace hsent⟩, hatt, by simp [blockFrames_append, frameStep]⟩
        exhausted := exhaustedInv_of_no_error herror }

/-- The bytes acknowledged with the current block (R248). -/
theorem toNat_sent_after_block (hdue : BlockDue s) (hsent : s.s_sent.toNat ≤ s.s_total.toNat) :
    (s.s_sent + s.s_curlen.setWidth 64).toNat =
      s.s_sent.toNat + min s.s_block.toNat (s.s_total.toNat - s.s_sent.toNat) := by
  rw [toNat_sent_add_curlen (by rw [hdue.curlen]; omega), hdue.curlen]

/-- Unless it was the last, the acknowledged block was a whole one, so the next begins one block size on. -/
theorem place_after_block (hdue : BlockDue s) (hsent : s.s_sent.toNat ≤ s.s_total.toNat)
    (hmore : s.s_sent + s.s_curlen.setWidth 64 ≠ s.s_total) :
    ∃ k, (s.s_sent + s.s_curlen.setWidth 64).toNat = k * s.s_block.toNat ∧ (s.s_seq + 1).toNat = k % 65536 := by
  obtain ⟨k, hk, hseq⟩ := hdue.place
  have hnext := toNat_sent_after_block hdue hsent
  have hne : (s.s_sent + s.s_curlen.setWidth 64).toNat ≠ s.s_total.toNat := mt BitVec.eq_of_toNat_eq hmore
  refine ⟨k + 1, ?_, ?_⟩
  · rw [Nat.succ_mul, ← hk]
    omega
  · rw [BitVec.toNat_add, hseq]
    exact Nat.mod_add_mod k 65536 1

end Sender

/- The shared procedures of the receiver. -/

section Receiver

variable {s : State}

theorem receiverSide_raiseFatal {k : ErrorCode} (hrole : s.role = .receiver) (hother : senderAtReset s)
    (hbounds : ReceiverBounds s) (htemp : TempFileInv s) : ReceiverSide (raiseFatal k s) := by
  have hstate : (raiseFatal k s).state = .rFailed := by
    rw [raiseFatal_eq, failedState_eq, if_neg (hrole ▸ nofun)]
  exact
    { role := hrole
      other := hother
      bounds := ⟨hbounds.window, hbounds.buffer, hbounds.name, hbounds.payload, hbounds.count⟩
      phase := by rw [hstate]; exact trivial
      tempFile := tempFileInv_of_same htemp rfl rfl rfl
        (tempContent_of_eq ((raiseFatal_outputs k s).trans (List.append_assoc _ _ _)) fun content => by
          simp [tempStep]) }

/-- An exact-count read begins with an empty buffer and leaves the rest as the branch made it (R317). -/
theorem receiverSide_startRead {c : StateCode} (hrole : s.role = .receiver) (hother : senderAtReset s)
    (hbounds : ReceiverBounds s) (htemp : TempFileInv s)
    (hphase : ∀ timer outs, ReceiverPhase { s with r_buf := [], state := c, timer_kind := timer, outputs := outs } c) :
    ReceiverSide (startRead c s) := by
  rw [startRead_eq]
  exact
    { role := hrole
      other := hother
      bounds := ⟨hbounds.window, Nat.zero_le 15, hbounds.name, hbounds.payload, hbounds.count⟩
      phase := hphase _ _
      tempFile := tempFileInv_of_same htemp rfl rfl rfl (tempContent_of_eq rfl fun content => by
        split_ifs
        · rfl
        · exact foldl_tempStep_stopOutputs content s.timer_kind) }

/-- The handshake is acknowledged before any block, with the file open as the policy says (R296, R298). -/
theorem receiverSide_hsComplete (hrole : s.role = .receiver) (hother : senderAtReset s) (hbounds : ReceiverBounds s)
    (hnone : NoBlockYet s) (hclosed : s.temp_open = false) : ReceiverSide (hsComplete s) := by
  rw [hsComplete_eq]
  split
  next hversion =>
    obtain ⟨-, hcount, hcrc⟩ := id hnone
    refine ⟨hrole, hother, ⟨Nat.zero_le 4, hbounds.buffer, hbounds.name, hbounds.payload, hbounds.count⟩,
      ⟨hnone, hversion, ?_⟩, ?_⟩
    · cases s.params.openTempAt <;> simp [hclosed]
    · cases hpolicy : s.params.openTempAt with
      | handshakeParsed => exact tempFileInv_of_empty hcount hcrc (by simp [tempContent_append, tempStep])
      | sessionValidated => exact tempFileInv_of_closed (by simpa using hclosed)
  next => exact receiverSide_raiseFatal hrole hother hbounds (tempFileInv_of_closed hclosed)

/-- The final check (R307) and the next header (R302) leave the temporary file; the count decides between them. -/
theorem receiverSide_blockLoop (hrole : s.role = .receiver) (hother : senderAtReset s) (hbounds : ReceiverBounds s)
    (hversion : s.r_version = s.params.protoVersion) (hopen : s.temp_open = true) (htemp : TempFileInv s) :
    ReceiverSide (blockLoop s) := by
  obtain ⟨hwindow, hbuffer, hname, hpayload, hcount⟩ := id hbounds
  rw [blockLoop_eq, finalCheck_eq]
  split_ifs with htotal hcrc
  · exact ⟨hrole, hother, ⟨hwindow, hbuffer, hname, hpayload, hcount⟩, ⟨hopen, htotal, hcrc⟩,
      tempFileInv_of_same htemp rfl rfl rfl (tempContent_of_eq rfl fun content => by simp [tempStep])⟩
  · exact ⟨hrole, hother, ⟨hwindow, hbuffer, hname, hpayload, hcount⟩, ⟨hopen, htotal, hcrc⟩,
      tempFileInv_of_same htemp rfl rfl rfl (tempContent_of_eq rfl fun content => by simp [tempStep])⟩
  · exact receiverSide_startRead hrole hother hbounds htemp fun _ _ =>
      ⟨⟨hversion, Nat.lt_of_not_le htotal, hopen⟩, Nat.zero_le 3⟩

end Receiver

/- The moves of the sender. -/

/-- A block's data is framed and sent once (R247). -/
theorem senderSide_blockData {s : State} (h : SenderSide s) (hs : s.state = .sNeedData) (herror : s.error = .none)
    {data : List Byte} (hlen : data.length = s.s_curlen.toNat) :
    SenderSide
      { s with
        s_frame := encodeBlock s.s_seq data (crc data 0), s_att := 1, timer_kind := .blockResp, state := .sAwaitResp,
        outputs := s.outputs ++ [.tx (encodeBlock s.s_seq data (crc data 0)), .timerArm .blockResp] } := by
  obtain ⟨hdue, -, hframes⟩ := (hs ▸ h.phase :)
  have hconfigured := h.configured (hs ▸ nofun)
  have hmax : s.s_maxatt.toNat ≠ 0 := fun hzero => hconfigured.2 (BitVec.eq_of_toNat_eq hzero)
  have hframe : (encodeBlock s.s_seq data (crc data 0)).length ≤ 65543 := by
    have hbound := s.s_curlen.isLt
    simp only [encodeBlock, List.length_append, le16_length, le32_length]
    omega
  exact
    { role := h.role
      other := h.other
      configured := fun _ => hconfigured
      bounds := ⟨h.bounds.sent, h.bounds.fin, h.bounds.name, hframe⟩
      phase :=
        ⟨⟨hdue.curlen, hdue.unsent, hdue.place⟩, Nat.le_refl 1, Nat.one_le_iff_ne_zero.mpr hmax, ⟨data, hlen, rfl⟩, by
          rw [blockFrames_append, hframes]; rfl⟩
      exhausted := exhaustedInv_of_no_error herror }

/-- An attempt is repeated below the limit (R251). -/
theorem senderSide_resend {s : State} (h : SenderSide s) (hs : s.state = .sAwaitResp) (herror : s.error = .none)
    (hatt : s.s_att.toNat < s.s_maxatt.toNat) :
    SenderSide
      { s with
        s_att := s.s_att + 1, timer_kind := .blockResp,
        outputs := s.outputs ++ [.tx s.s_frame, .timerArm .blockResp] } := by
  obtain ⟨hdue, hattempted⟩ := (hs ▸ h.phase :)
  have hnext : (s.s_att + 1).toNat = s.s_att.toNat + 1 :=
    BitVec.toNat_add_of_lt (Nat.lt_of_le_of_lt hatt s.s_maxatt.isLt)
  have hone : 1 ≤ (s.s_att + 1).toNat := by rw [hnext]; exact Nat.le_add_left 1 _
  have hmax : (s.s_att + 1).toNat ≤ s.s_maxatt.toNat := by rw [hnext]; exact hatt
  have hframes : blockFrames (s.outputs ++ [.tx s.s_frame, .timerArm .blockResp]) =
      List.replicate (s.s_att + 1).toNat s.s_frame := by
    rw [blockFrames_append, hattempted.frames, hnext, List.replicate_succ']
    rfl
  exact senderSide_of_state hs h.role h.other (h.configured (hs ▸ nofun))
    ⟨h.bounds.sent, h.bounds.fin, h.bounds.name, h.bounds.frame⟩
    ⟨⟨hdue.curlen, hdue.unsent, hdue.place⟩, hone, hmax, hattempted.frame, hframes⟩ herror

/-- At the limit the frame has been transmitted that often (R251). -/
theorem frames_at_limit {s : State} (h : SenderSide s) (hs : s.state = .sAwaitResp)
    (hatt : s.s_maxatt.toNat ≤ s.s_att.toNat) :
    blockFrames s.outputs = List.replicate s.s_maxatt.toNat s.s_frame := by
  obtain ⟨-, hattempted⟩ := (hs ▸ h.phase :)
  rw [hattempted.frames, Nat.le_antisymm hattempted.le_max hatt]

/-- The handshake's ACK starts the block loop at byte 0 (R244). -/
theorem senderSide_handshakeAcked {s : State} (h : SenderSide s) (hs : s.state = .sAwaitHsAck)
    (herror : s.error = .none) (timer : TimerKind) (outs : List Output) :
    SenderSide
      (nextBlock { s with s_seq := 0, s_sent := 0, s_att := 0, timer_kind := timer, outputs := outs }) :=
  senderSide_nextBlock h.role h.other (h.configured (hs ▸ nofun))
    ⟨Nat.zero_le _, h.bounds.fin, h.bounds.name, h.bounds.frame⟩ rfl herror fun _ => ⟨0, by simp, rfl⟩

/-- A block's ACK moves on by that block (R248). -/
theorem senderSide_blockAcked {s : State} (h : SenderSide s) (hs : s.state = .sAwaitResp) (herror : s.error = .none)
    (timer : TimerKind) (outs : List Output) :
    SenderSide
      (nextBlock
        { s with
          s_sent := s.s_sent + s.s_curlen.setWidth 64, s_seq := s.s_seq + 1, s_att := 0, timer_kind := timer,
          outputs := outs }) := by
  obtain ⟨hdue, -⟩ := (hs ▸ h.phase :)
  have hsent : (s.s_sent + s.s_curlen.setWidth 64).toNat ≤ s.s_total.toNat := by
    have hbound := h.bounds.sent
    rw [toNat_sent_after_block hdue hbound]
    omega
  exact senderSide_nextBlock h.role h.other (h.configured (hs ▸ nofun))
    ⟨hsent, h.bounds.fin, h.bounds.name, h.bounds.frame⟩ rfl herror (place_after_block hdue h.bounds.sent)

/- The moves of the receiver. -/

theorem length_concat_le {buf : List Byte} {n : Nat} (b : Byte) (hle : buf.length ≤ n) (hne : buf.length ≠ n) :
    (buf ++ [b]).length ≤ n := by
  rw [List.length_append]
  exact Nat.lt_of_le_of_ne hle hne

/-- A byte that is only buffered keeps the buffer short of its read (R317). -/
theorem receiverSide_buffered {s : State} (h : ReceiverSide s) (b : Byte)
    (hs : (s.state = .rReadHsFixed ∧ s.r_buf.length ≠ 14) ∨ (s.state = .rReadSess ∧ s.r_buf.length ≠ 12) ∨
      ((s.state = .rBlkHdr ∨ s.state = .rBlkCrc) ∧ s.r_buf.length ≠ 3)) :
    ReceiverSide { s with r_buf := s.r_buf ++ [b] } := by
  have hside : ∀ {c : StateCode}, s.state = c → (s.r_buf ++ [b]).length ≤ 15 →
      ReceiverPhase { s with r_buf := s.r_buf ++ [b] } c → ReceiverSide { s with r_buf := s.r_buf ++ [b] } :=
    fun hs hlen hphase => receiverSide_of_state hs h.role h.other
      ⟨h.bounds.window, hlen, h.bounds.name, h.bounds.payload, h.bounds.count⟩ hphase h.tempFile
  rcases hs with ⟨hs, hne⟩ | ⟨hs, hne⟩ | ⟨hs | hs, hne⟩
  · obtain ⟨hnone, htemp, hbuf⟩ := (hs ▸ h.phase :)
    have hlen := length_concat_le b hbuf hne
    exact hside hs (hlen.trans (by decide)) ⟨hnone, htemp, hlen⟩
  · obtain ⟨hnone, hacked, hbuf⟩ := (hs ▸ h.phase :)
    have hlen := length_concat_le b hbuf hne
    exact hside hs (hlen.trans (by decide)) ⟨hnone, hacked, hlen⟩
  · obtain ⟨hloop, hbuf⟩ := (hs ▸ h.phase :)
    have hlen := length_concat_le b hbuf hne
    exact hside hs (hlen.trans (by decide)) ⟨hloop, hlen⟩
  · obtain ⟨hloop, hbuf, hpayload⟩ := (hs ▸ h.phase :)
    have hlen := length_concat_le b hbuf hne
    exact hside hs (hlen.trans (by decide)) ⟨hloop, hlen, hpayload⟩

/-- The session frame opens the temporary file if the handshake did not (R298, R300). -/
theorem receiverSide_session {s : State} (h : ReceiverSide s) (hs : s.state = .rReadSess) {buf : List Byte}
    (hlen : buf.length = 13) :
    ReceiverSide
      (blockLoop
        { s with
          r_buf := buf, r_exp_seq := 0, r_count := 0, r_run_crc := 0, r_verdict := .none,
          temp_open := if s.params.openTempAt = .sessionValidated then true else s.temp_open,
          outputs := s.outputs ++
            (if s.params.openTempAt = .sessionValidated then [.openTemp s.r_name] else []) }) := by
  obtain ⟨⟨-, hcount, -⟩, ⟨hversion, htemp⟩, -⟩ := (hs ▸ h.phase :)
  refine receiverSide_blockLoop h.role h.other
    ⟨h.bounds.window, (by rw [hlen]; decide : buf.length ≤ 15), h.bounds.name, h.bounds.payload,
      Nat.lt_add_left _ (Nat.zero_lt_succ 65535)⟩ hversion ?_ ?_
  · cases hpolicy : s.params.openTempAt <;> simp [hpolicy, htemp]
  · refine tempFileInv_of_empty rfl rfl ?_
    cases hpolicy : s.params.openTempAt with
    | sessionValidated => simp [tempContent_append, tempStep]
    | handshakeParsed =>
      obtain ⟨hlength, -⟩ := h.tempFile (by rw [htemp, hpolicy]; rfl)
      have hempty : tempContent s.outputs = [] := List.eq_nil_of_length_eq_zero (hlength.symm.trans hcount)
      simpa using hempty

/-- An accepted block is appended to the file, counted and taken into the running CRC (R305). -/
theorem receiverSide_accepted {s : State} (h : ReceiverSide s) (hs : s.state = .rBlkCrc) {buf : List Byte}
    (hlen : buf.length = 4) (seq : Half) (verdict : Verdict) (ack : List Byte) :
    ReceiverSide
      (blockLoop
        { s with
          r_buf := buf, r_count := s.r_count + s.r_blk_len.toNat, r_run_crc := crc s.r_payload s.r_run_crc,
          r_exp_seq := seq, r_verdict := verdict, outputs := s.outputs ++ [.writeTemp s.r_payload, .tx ack] }) := by
  obtain ⟨⟨hversion, hcount, hopen⟩, -, hpayload⟩ := (hs ▸ h.phase :)
  have hbound : s.r_count + s.r_blk_len.toNat < s.r_total.toNat + 65536 := Nat.add_lt_add hcount s.r_blk_len.isLt
  refine receiverSide_blockLoop h.role h.other
    ⟨h.bounds.window, (by rw [hlen]; decide : buf.length ≤ 15), h.bounds.name, h.bounds.payload, hbound⟩ hversion
    hopen fun hopen => ?_
  obtain ⟨hlength, hcrc⟩ := h.tempFile hopen
  have hcontent : tempContent (s.outputs ++ [.writeTemp s.r_payload, .tx ack]) =
      tempContent s.outputs ++ s.r_payload := tempContent_append _ _
  refine ⟨?_, ?_⟩
  · rw [hcontent, List.length_append, ← hlength, hpayload]
  · rw [hcontent, crc_append, ← hcrc]

/-- A rejected block leaves the file, the count and the running CRC (R306). -/
theorem receiverSide_rejected {s : State} (h : ReceiverSide s) (hs : s.state = .rBlkCrc) {buf : List Byte}
    (hlen : buf.length = 4) (verdict : Verdict) (nak : List Byte) :
    ReceiverSide (blockLoop { s with r_buf := buf, r_verdict := verdict, outputs := s.outputs ++ [.tx nak] }) := by
  obtain ⟨⟨hversion, -, hopen⟩, -⟩ := (hs ▸ h.phase :)
  exact receiverSide_blockLoop h.role h.other
    ⟨h.bounds.window, (by rw [hlen]; decide : buf.length ≤ 15), h.bounds.name, h.bounds.payload, h.bounds.count⟩
    hversion hopen (tempFileInv_of_same h.tempFile rfl rfl rfl (tempContent_append _ _))

/- All moves. -/

/-- The fields of the role that a start leaves behind are at their reset values, and so are those it enters with. -/
theorem atReset_of_idle {s : State} (hinv : EngineInv s) (hs : s.state = .idle) :
    senderAtReset s ∧ receiverAtReset s ∧ s.temp_open = false := by
  have hrole : s.role = .none := hinv.control.role.trans (congrArg stateRole hs)
  exact ⟨hinv.sender.otherRole (hrole ▸ nofun), hinv.receiver.otherRole (hrole ▸ nofun)⟩

theorem senderBounds_of_engineInv {s : State} (hinv : EngineInv s) : SenderBounds s :=
  ⟨hinv.sender.sentLe, hinv.sender.fin.1, hinv.sender.bounds.1, hinv.sender.bounds.2⟩

/-- A move ends in one of the two roles, with that role's invariant. -/
theorem move_side {i : Instr} {s u : State} (hinv : EngineInv s) (hwf : i.WellFormed) (hmove : Move i s u) :
    SenderSide u ∨ ReceiverSide u := by
  have herror : s.error = .none := error_eq_none hinv.control hmove.not_terminal
  have hsender : ∀ {c : StateCode}, s.state = c → stateRole c = .sender → SenderSide s := fun hs hc =>
    senderSide_of_engineInv hinv (hinv.control.role.trans (hs ▸ hc))
  have hreceiver : ∀ {c : StateCode}, s.state = c → stateRole c = .receiver → ReceiverSide s := fun hs hc =>
    receiverSide_of_engineInv hinv (hinv.control.role.trans (hs ▸ hc))
  cases hmove with
  | startFatal hs =>
    obtain ⟨-, hother⟩ := atReset_of_idle hinv hs
    have hbounds := senderBounds_of_engineInv hinv
    exact .inl (senderSide_raiseFatal rfl hother ⟨hbounds.sent, hbounds.fin, hbounds.name, hbounds.frame⟩ nofun)
  | startSender blockSize maxAttempts hs hblock hatt =>
    obtain ⟨⟨-, -, -, -, -, -, hzero, hsent, -⟩, hother⟩ := atReset_of_idle hinv hs
    have hbounds := senderBounds_of_engineInv hinv
    have hle : s.s_sent.toNat ≤ (0 : Dword).toNat := by rw [hsent]
    exact .inl (senderSide_of_state rfl rfl hother ⟨hblock, hatt⟩ ⟨hle, hbounds.fin, hbounds.name, hbounds.frame⟩
      ⟨hsent, hzero⟩ herror)
  | startReceiver hs =>
    obtain ⟨hother, hreset, hclosed⟩ := atReset_of_idle hinv hs
    obtain ⟨-, -, -, -, -, -, -, hseq, hcount, hcrc, -⟩ := hreset
    have hbounds : ReceiverBounds s :=
      ⟨hinv.receiver.window, hinv.receiver.buffer.1, hinv.receiver.name.1, hinv.receiver.payload.1,
        hinv.receiver.count.1⟩
    exact .inr (receiverSide_of_state rfl rfl hother
      ⟨hbounds.window, hbounds.buffer, hbounds.name, hbounds.payload, hbounds.count⟩ ⟨⟨hseq, hcount, hcrc⟩, hclosed⟩
      (tempFileInv_of_closed hclosed))
  | fatal k hk =>
    obtain ⟨hidle, -, -, hk⟩ := hk
    cases hrole : stateRole s.state with
    | none =>
      refine absurd ?_ hidle
      revert hrole
      cases s.state <;> simp [stateRole]
    | sender =>
      have h := hsender rfl hrole
      exact .inl (senderSide_raiseFatal h.role h.other h.bounds fun hexhausted => absurd hexhausted hk)
    | receiver =>
      have h := hreceiver rfl hrole
      exact .inr (receiverSide_raiseFatal h.role h.other h.bounds h.tempFile)
  | modeEntered hs =>
    have h := hsender hs rfl
    obtain ⟨hsent, hatt⟩ := (hs ▸ h.phase :)
    exact .inl (senderSide_of_state rfl h.role h.other (h.configured (hs ▸ nofun))
      ⟨h.bounds.sent, h.bounds.fin, h.bounds.name, h.bounds.frame⟩ ⟨hsent, hatt⟩ herror)
  | fileData fcrc total hs =>
    have h := hsender hs rfl
    obtain ⟨hsent, hatt⟩ := (hs ▸ h.phase :)
    have hle : s.s_sent.toNat ≤ total.toNat := by rw [hsent]; exact Nat.zero_le _
    exact .inl (senderSide_of_state hs h.role h.other (h.configured (hs ▸ nofun))
      ⟨hle, h.bounds.fin, h.bounds.name, h.bounds.frame⟩ ⟨hsent, hatt⟩ herror)
  | fileEnd name hi hs =>
    have h := hsender hs rfl
    have hname : name.length ≤ 65535 := (hi ▸ hwf :)
    obtain ⟨hsent, hatt⟩ := (hs ▸ h.phase :)
    exact .inl (senderSide_of_state rfl h.role h.other (h.configured (hs ▸ nofun))
      ⟨h.bounds.sent, h.bounds.fin, hname, h.bounds.frame⟩ ⟨hsent, hatt⟩ herror)
  | handshakeAcked hs => exact .inl (senderSide_handshakeAcked (hsender hs rfl) hs herror _ _)
  | ignored hs => exact .inl (hs.elim (hsender · rfl) (hsender · rfl))
  | blockData data hs hlen => exact .inl (senderSide_blockData (hsender hs rfl) hs herror hlen)
  | blockAcked hs => exact .inl (senderSide_blockAcked (hsender hs rfl) hs herror _ _)
  | resend hs hatt => exact .inl (senderSide_resend (hsender hs rfl) hs herror hatt)
  | exhausted hs hatt =>
    have h := hsender hs rfl
    exact .inl (senderSide_raiseFatal h.role h.other h.bounds fun _ => frames_at_limit h hs hatt)
  | finalByte b hs hlen =>
    have h := hsender hs rfl
    obtain ⟨hatt, hsent, hfin⟩ := (hs ▸ h.phase :)
    have hnext : (s.s_fin ++ [b]).length ≤ 1 := length_concat_le b hfin hlen
    exact .inl (senderSide_of_state hs h.role h.other (h.configured (hs ▸ nofun))
      ⟨h.bounds.sent, hnext.trans (by decide), h.bounds.name, h.bounds.frame⟩ ⟨hatt, hsent, hnext⟩ herror)
  | done hs =>
    have h := hsender hs rfl
    obtain ⟨hatt, hsent, -⟩ := (hs ▸ h.phase :)
    exact .inl (senderSide_of_state rfl h.role h.other (h.configured (hs ▸ nofun))
      ⟨h.bounds.sent, Nat.le_refl 2, h.bounds.name, h.bounds.frame⟩ ⟨hatt, hsent, rfl⟩ herror)
  | badToken a b hs =>
    have h := hsender hs rfl
    exact .inl (senderSide_raiseFatal h.role h.other
      ⟨h.bounds.sent, Nat.le_refl 2, h.bounds.name, h.bounds.frame⟩ nofun)
  | syncing hs =>
    have h := hreceiver hs rfl
    obtain ⟨hnone, hclosed⟩ := (hs ▸ h.phase :)
    exact .inr (receiverSide_of_state rfl h.role h.other
      ⟨Nat.zero_le 4, h.bounds.buffer, h.bounds.name, h.bounds.payload, h.bounds.count⟩ ⟨hnone, hclosed⟩
      (tempFileInv_of_closed hclosed))
  | noise b hs =>
    have hwindow : (lastN 4 (s.e_win ++ [b])).length ≤ 4 := (lastN_length 4 _).trans_le (Nat.min_le_left 4 _)
    rcases hs with hs | hs <;> have h := hreceiver hs rfl
    · exact .inr (receiverSide_of_state hs h.role h.other
        ⟨hwindow, h.bounds.buffer, h.bounds.name, h.bounds.payload, h.bounds.count⟩ (hs ▸ h.phase :) h.tempFile)
    · exact .inr (receiverSide_of_state hs h.role h.other
        ⟨hwindow, h.bounds.buffer, h.bounds.name, h.bounds.payload, h.bounds.count⟩ (hs ▸ h.phase :) h.tempFile)
  | handshakeFound hs =>
    have h := hreceiver hs rfl
    obtain ⟨hnone, hclosed⟩ := (hs ▸ h.phase :)
    exact .inr (receiverSide_startRead h.role h.other
      ⟨Nat.zero_le 4, h.bounds.buffer, h.bounds.name, h.bounds.payload, h.bounds.count⟩ h.tempFile
      fun _ _ => ⟨hnone, hclosed, Nat.zero_le 14⟩)
  | sessionFound hs =>
    have h := hreceiver hs rfl
    obtain ⟨hnone, hacked⟩ := (hs ▸ h.phase :)
    exact .inr (receiverSide_startRead h.role h.other
      ⟨Nat.zero_le 4, h.bounds.buffer, h.bounds.name, h.bounds.payload, h.bounds.count⟩ h.tempFile
      fun _ _ => ⟨hnone, hacked, Nat.zero_le 12⟩)
  | buffered b hs =>
    have hrole : stateRole s.state = .receiver := by
      rcases hs with ⟨hs, -⟩ | ⟨hs, -⟩ | ⟨hs | hs, -⟩ <;> rw [hs] <;> rfl
    exact .inr (receiverSide_buffered (hreceiver rfl hrole) b hs)
  | fixedNoName buf v total fcrc hs hlen =>
    have h := hreceiver hs rfl
    obtain ⟨⟨hseq, hcount, hcrc⟩, hclosed, -⟩ := (hs ▸ h.phase :)
    exact .inr (receiverSide_hsComplete h.role h.other
      ⟨h.bounds.window, hlen.le, Nat.zero_le _, h.bounds.payload, by simp [hcount]⟩ ⟨hseq, hcount, hcrc⟩ hclosed)
  | fixedName v n total fcrc hs hn =>
    have h := hreceiver hs rfl
    obtain ⟨⟨hseq, hcount, hcrc⟩, hclosed, -⟩ := (hs ▸ h.phase :)
    have hpos : 0 < n.toNat := Nat.pos_of_ne_zero fun hzero => hn (BitVec.eq_of_toNat_eq hzero)
    exact .inr (receiverSide_startRead h.role h.other
      ⟨h.bounds.window, h.bounds.buffer, Nat.zero_le _, h.bounds.payload, by simp [hcount]⟩
      (tempFileInv_of_closed hclosed) fun _ _ => ⟨⟨hseq, hcount, hcrc⟩, hclosed, hpos⟩)
  | nameByte b hs hlen =>
    have h := hreceiver hs rfl
    obtain ⟨hnone, hclosed, hname⟩ := (hs ▸ h.phase :)
    have hnext : (s.r_name ++ [b]).length < s.r_name_len.toNat := by
      rw [List.length_append]
      exact Nat.lt_of_le_of_ne hname hlen
    have hbound := s.r_name_len.isLt
    exact .inr (receiverSide_of_state hs h.role h.other
      ⟨h.bounds.window, h.bounds.buffer, by simp only []; omega, h.bounds.payload, h.bounds.count⟩
      ⟨hnone, hclosed, hnext⟩ h.tempFile)
  | nameComplete b hs hlen =>
    have h := hreceiver hs rfl
    obtain ⟨hnone, hclosed, -⟩ := (hs ▸ h.phase :)
    have hbound := s.r_name_len.isLt
    have hname : (s.r_name ++ [b]).length ≤ 65535 := by
      rw [List.length_append, List.length_singleton]
      omega
    exact .inr (receiverSide_hsComplete h.role h.other
      ⟨h.bounds.window, h.bounds.buffer, hname, h.bounds.payload, h.bounds.count⟩ hnone hclosed)
  | badSession buf hs hlen =>
    have h := hreceiver hs rfl
    exact .inr (receiverSide_raiseFatal h.role h.other
      ⟨h.bounds.window, (by rw [hlen]; decide : buf.length ≤ 15), h.bounds.name, h.bounds.payload, h.bounds.count⟩
      h.tempFile)
  | session buf hs hlen => exact .inr (receiverSide_session (hreceiver hs rfl) hs hlen)
  | header q n hs =>
    have h := hreceiver hs rfl
    obtain ⟨⟨hversion, hcount, hopen⟩, -⟩ := (hs ▸ h.phase :)
    refine .inr (receiverSide_startRead h.role h.other
      ⟨h.bounds.window, h.bounds.buffer, h.bounds.name, Nat.zero_le _, h.bounds.count⟩ h.tempFile fun _ _ => ?_)
    split_ifs with hn
    · exact ⟨⟨hversion, hcount, hopen⟩, Nat.zero_le 3, (congrArg BitVec.toNat hn).symm⟩
    · exact ⟨⟨hversion, hcount, hopen⟩, Nat.pos_of_ne_zero fun hzero => hn (BitVec.eq_of_toNat_eq hzero)⟩
  | payloadByte b hs hlen =>
    have h := hreceiver hs rfl
    obtain ⟨hloop, hpayload⟩ := (hs ▸ h.phase :)
    have hnext : (s.r_payload ++ [b]).length < s.r_blk_len.toNat := by
      rw [List.length_append]
      exact Nat.lt_of_le_of_ne hpayload hlen
    have hbound := s.r_blk_len.isLt
    exact .inr (receiverSide_of_state hs h.role h.other
      ⟨h.bounds.window, h.bounds.buffer, h.bounds.name, by simp only []; omega, h.bounds.count⟩ ⟨hloop, hnext⟩
      h.tempFile)
  | payloadComplete b hs hlen =>
    have h := hreceiver hs rfl
    obtain ⟨⟨hversion, hcount, hopen⟩, -⟩ := (hs ▸ h.phase :)
    have hnext : (s.r_payload ++ [b]).length = s.r_blk_len.toNat := by
      rw [List.length_append]
      exact hlen
    have hbound := s.r_blk_len.isLt
    exact .inr (receiverSide_startRead h.role h.other
      ⟨h.bounds.window, h.bounds.buffer, h.bounds.name, by simp only []; omega, h.bounds.count⟩ h.tempFile
      fun _ _ => ⟨⟨hversion, hcount, hopen⟩, Nat.zero_le 3, hnext⟩)
  | accepted buf hs hlen hseq => exact .inr (receiverSide_accepted (hreceiver hs rfl) hs hlen _ _ _)
  | rejected buf verdict hs hlen => exact .inr (receiverSide_rejected (hreceiver hs rfl) hs hlen _ _)

/-- Every move keeps the engine invariant. -/
theorem move_engineInv {i : Instr} {s u : State} (hinv : EngineInv s) (hwf : i.WellFormed) (hmove : Move i s u) :
    EngineInv u := by
  have hcontrol := move_controlInv hinv.control hmove
  have hscanner : ScannerInv u := by
    obtain ⟨-, -, hwin, harmed, hmatched⟩ := UnitRegs.mk.inj hmove.frame.units
    unfold ScannerInv
    rw [hwin, harmed, hmatched]
    exact hinv.scanner
  rcases move_side hinv hwf hmove with hside | hside
  · exact hside.engineInv hcontrol hscanner
  · exact hside.engineInv hcontrol hscanner

/-- The ports, the sticky flag and the CRC register are none of the invariant's fields. -/
theorem engineInv_of_ports {s : State} (h : EngineInv s) (port : List (List Byte)) (responses : List Response)
    (illegal : Bool) (crcUnit : Word) :
    EngineInv { s with cmd_port := port, responses := responses, illegal := illegal, crc_unit := crcUnit } where
  control := { h.control with }
  sender := { h.sender with }
  receiver := { h.receiver with }
  tempFile := h.tempFile
  attempt := h.attempt
  scanner := h.scanner

/-- Every command keeps the engine invariant. -/
theorem stepped_engineInv {i : Instr} {s t : State} (hinv : EngineInv s) (hwf : i.WellFormed) (h : Stepped i s t) :
    EngineInv t := by
  cases h with
  | unit u refused r hscanner =>
    exact
      { control := { hinv.control with }
        sender := { hinv.sender with }
        receiver := { hinv.receiver with }
        tempFile := hinv.tempFile
        attempt := hinv.attempt
        scanner := hscanner hinv.scanner }
  | moved u hmove =>
    exact engineInv_of_ports (move_engineInv hinv hwf hmove) u.cmd_port (Spec.ok u) u.illegal u.crc_unit
  | reset =>
    exact engineInv_of_idle rfl ⟨nofun, rfl, rfl, rfl⟩ ⟨Nat.zero_le 4, nofun, fun _ => rfl⟩
      (senderAtReset_reset s.params) (receiverAtReset_reset s.params) rfl

/-- Settles O56: an empty port rests, and every command that the port can carry keeps the invariant. -/
theorem stepKeepsInv : Obligations.StepKeepsInv := by
  intro s t hinv hstep
  rcases step_cases hstep with ⟨-, rfl⟩ | ⟨cmd, rest, i, -, hwf, hcommand⟩
  · exact hinv
  · exact stepped_engineInv (engineInv_of_ports hinv rest s.responses s.illegal s.crc_unit) hwf hcommand

end Sys2Proof.Laws

/-!
The arithmetic of the CRC (40_crc.md sections 1 and 2). One iteration of the loop is linear over GF(2) and loses no bit,
so a CRC of two inputs differs by what the register makes of their differing bits, taken in one by one.
-/

namespace Sys2Proof.Laws

open Sys2Proof Sys2Proof.Machine

/- One iteration and the loop (R160): linear, invertible, and a plain shift while the low bits are zero. -/

theorem crcShift_eq (c : Word) : crcShift c = (c >>> 1) ^^^ (if c.getLsbD 0 then crcPoly else 0) := by
  rw [crcShift]
  split_ifs
  · rfl
  · exact BitVec.xor_zero.symm

theorem crcShift_xor (a b : Word) : crcShift (a ^^^ b) = crcShift a ^^^ crcShift b := by
  have hfeedback : ∀ x y : Bool, (if x ^^ y then crcPoly else 0) =
      (if x then crcPoly else 0) ^^^ (if y then crcPoly else 0) := by decide
  rw [crcShift_eq, crcShift_eq, crcShift_eq, BitVec.getLsbD_xor, BitVec.ushiftRight_xor_distrib, hfeedback]
  ac_rfl

theorem crcLoop_succ (n : Nat) (c : Word) : crcLoop (n + 1) c = crcShift (crcLoop n c) := by
  induction n generalizing c with
  | zero => rfl
  | succ n ih => exact ih (crcShift c)

theorem crcLoop_xor (n : Nat) (a b : Word) : crcLoop n (a ^^^ b) = crcLoop n a ^^^ crcLoop n b := by
  induction n with
  | zero => rfl
  | succ n ih => rw [crcLoop_succ, crcLoop_succ, crcLoop_succ, ih, crcShift_xor]

theorem crcLoop_zero (n : Nat) : crcLoop n 0 = 0 := by
  induction n with
  | zero => rfl
  | succ n ih => exact ih

/-- The polynomial's top bit keeps the bit that the shift drops, so no iteration loses a nonzero register. -/
theorem crcShift_eq_zero_iff (c : Word) : crcShift c = 0 ↔ c = 0 := by
  refine ⟨fun h => ?_, fun h => by rw [h]; rfl⟩
  have hpoly : crcPoly[31] = true := by decide
  have hlow : c.getLsbD 0 = false := by
    have htop := congrArg (fun v : Word => v.getLsbD 31) h
    rw [crcShift_eq] at htop
    cases hbit : c.getLsbD 0 with
    | false => rfl
    | true => simp [hbit, hpoly] at htop
  have hshift : c >>> 1 = 0 := by
    rwa [crcShift, if_neg (ne_true_of_eq_false hlow)] at h
  refine BitVec.eq_of_getLsbD_eq fun i _ => ?_
  cases i with
  | zero => exact hlow
  | succ i =>
    have hbit := congrArg (fun v : Word => v.getLsbD i) hshift
    simpa [Nat.add_comm] using hbit

theorem crcLoop_eq_zero_iff (n : Nat) (c : Word) : crcLoop n c = 0 ↔ c = 0 := by
  induction n with
  | zero => rfl
  | succ n ih => rw [crcLoop_succ, crcShift_eq_zero_iff, ih]

/-- While the bits shifted out are zero the polynomial does not come in. -/
theorem crcLoop_of_low_zero {n : Nat} {c : Word} (h : ∀ i, i < n → c.getLsbD i = false) : crcLoop n c = c >>> n := by
  induction n with
  | zero => exact (BitVec.ushiftRight_zero c).symm
  | succ n ih =>
    have hlow : (c >>> n).getLsbD 0 = false := by
      rw [BitVec.getLsbD_ushiftRight]
      exact h n (Nat.lt_succ_self n)
    rw [crcLoop_succ, ih fun i hi => h i (Nat.lt_succ_of_lt hi), crcShift, if_neg (ne_true_of_eq_false hlow),
      BitVec.shiftRight_add]

/- The one-byte update: the loop written out, and the table form. -/

theorem foldl_range_crcShift (n : Nat) (c : Word) : (List.range n).foldl (fun c _ => crcShift c) c = crcLoop n c := by
  induction n with
  | zero => rfl
  | succ n ih => rw [List.range_succ, List.foldl_append, ih, crcLoop_succ]; rfl

theorem getLsbD_byteMask (i : Nat) : (255#32).getLsbD i = decide (i < 8) := by
  have hmask : 255#32 = (BitVec.allOnes 8).setWidth 32 := by decide
  rw [hmask, BitVec.getLsbD_setWidth, BitVec.getLsbD_allOnes]
  by_cases hi : i < 8 <;> simp [hi]
  omega

/-- Eight iterations look up the low byte and shift the rest down. -/
theorem crcLoop_eight (c : Word) : crcLoop 8 c = crcLoop 8 (c &&& 0xFF) ^^^ (c >>> 8) := by
  have hlow : ∀ i, i < 8 → (c ^^^ (c &&& 0xFF)).getLsbD i = false := by
    intro i hi
    simp [getLsbD_byteMask, hi]
  have hhigh : (c ^^^ (c &&& 0xFF)) >>> 8 = c >>> 8 := by
    refine BitVec.eq_of_getLsbD_eq fun i _ => ?_
    simp [getLsbD_byteMask]
  calc crcLoop 8 c
      = crcLoop 8 ((c &&& 0xFF) ^^^ (c ^^^ (c &&& 0xFF))) := by
        rw [BitVec.xor_comm c, ← BitVec.xor_assoc, BitVec.xor_self, BitVec.zero_xor]
    _ = crcLoop 8 (c &&& 0xFF) ^^^ (c >>> 8) := by rw [crcLoop_xor, crcLoop_of_low_zero hlow, hhigh]

/-- The byte taken in does not reach beyond the low byte. -/
theorem xor_byte_ushiftRight (c : Word) (b : Byte) : (c ^^^ b.setWidth 32) >>> 8 = c >>> 8 := by
  refine BitVec.eq_of_getLsbD_eq fun i _ => ?_
  simp

/-- Settles O2: the loop is eight shifts, and by linearity a lookup of the low byte and a shift of the rest. -/
theorem crcStepTableForm : Obligations.CrcStepTableForm := by
  refine ⟨fun r b => ?loop, fun r b => ?table, crcLoop_zero 8, by decide, by decide, by decide⟩
  case loop => exact congrArg (· ^^^ crcMask) (foldl_range_crcShift 8 _).symm
  case table =>
    rw [crcStep, crcLoop_eight, xor_byte_ushiftRight]
    rfl

/- The fold over the bytes. -/

set_option maxRecDepth 4000 in
/-- Settles O3: a left fold splits anywhere; the check value is evaluated. -/
theorem crcIsIncremental : Obligations.CrcIsIncremental :=
  ⟨fun _ => rfl, fun s b seed => crc_append s [b] seed, crc_append, by decide⟩

/-- Two updates differ by what the loop makes of the differences. -/
theorem crcStep_xor_crcStep (r t : Word) (x y : Byte) :
    crcStep r x ^^^ crcStep t y = crcLoop 8 ((r ^^^ t) ^^^ (x ^^^ y).setWidth 32) := by
  have hcancel : ∀ a b : Word, (a ^^^ crcMask) ^^^ (b ^^^ crcMask) = a ^^^ b := by
    intro a b
    rw [BitVec.xor_comm b, BitVec.xor_assoc, ← BitVec.xor_assoc crcMask, BitVec.xor_self, BitVec.zero_xor]
  have hinner : ((r ^^^ crcMask) ^^^ x.setWidth 32) ^^^ ((t ^^^ crcMask) ^^^ y.setWidth 32) =
      (r ^^^ t) ^^^ (x ^^^ y).setWidth 32 := by
    rw [BitVec.setWidth_xor, ← hcancel r t]
    ac_rfl
  rw [crcStep, crcStep, hcancel, ← crcLoop_xor, hinner]

/-- Only the difference of the inputs and the difference of the seeds matter. -/
theorem crc_xor_crc {a b : List Byte} (hlen : a.length = b.length) {s t u v : Word} (h : s ^^^ t = u ^^^ v) :
    crc a s ^^^ crc b t =
      crc (List.zipWith (fun x y => x ^^^ y) a b) u ^^^ crc (List.replicate a.length 0) v := by
  induction a generalizing b s t u v with
  | nil =>
    obtain rfl := List.eq_nil_of_length_eq_zero hlen.symm
    exact h
  | cons x a ih =>
    cases b with
    | nil => exact nomatch hlen
    | cons y b =>
      refine ih (Nat.succ.inj hlen) ?_
      rw [crcStep_xor_crcStep, crcStep_xor_crcStep, h]
      exact congrArg (fun z => crcLoop 8 ((u ^^^ v) ^^^ BitVec.setWidth 32 z)) BitVec.xor_zero.symm

/-- Settles O4: equal seeds differ by nothing. -/
theorem crcIsAffine : Obligations.CrcIsAffine := by
  intro a b s hlen
  exact crc_xor_crc hlen (BitVec.xor_self.trans BitVec.xor_self.symm)

/- Error detection: the differing bits enter the register one by one. -/

/-- A bit as a word. -/
def bitWord (x : Bool) : Word := if x then 1 else 0

/-- The register after the first `n` bits of `f`, from `r`. -/
def feedBits (f : Nat → Bool) (r : Word) : Nat → Word
  | 0 => r
  | n + 1 => crcShift (feedBits f r n ^^^ bitWord (f n))

/-- The first `n` bits of `f` as a word, bit 0 first. -/
def packBits (f : Nat → Bool) : Nat → Word
  | 0 => 0
  | n + 1 => packBits f n ^^^ (bitWord (f n) <<< n)

theorem getLsbD_bitWord (x : Bool) (i : Nat) : (bitWord x).getLsbD i = (x && decide (i = 0)) := by
  cases x with
  | false => simp [bitWord]
  | true => simp [bitWord, BitVec.getLsbD_one]

theorem getLsbD_packBits (f : Nat → Bool) (n : Nat) {i : Nat} (hi : i < 32) :
    (packBits f n).getLsbD i = (decide (i < n) && f i) := by
  induction n with
  | zero => simp [packBits]
  | succ n ih =>
    rw [packBits, BitVec.getLsbD_xor, ih, BitVec.getLsbD_shiftLeft, getLsbD_bitWord]
    rcases Nat.lt_trichotomy i n with hlt | rfl | hgt
    · simp [hlt, Nat.lt_succ_of_lt hlt]
    · simp [hi]
    · simp [Nat.not_lt.mpr hgt.le, Nat.sub_ne_zero_of_lt hgt, Nat.not_lt.mpr (Nat.succ_le_of_lt hgt)]

/-- A bit that stands at place `j` has come down to place 0 after `j` iterations. -/
theorem crcLoop_bitWord (x : Bool) {j : Nat} (hj : j < 32) : crcLoop j (bitWord x <<< j) = bitWord x := by
  rw [crcLoop_of_low_zero fun i hi => by simp [hi]]
  refine BitVec.eq_of_getLsbD_eq fun i _ => ?_
  rw [BitVec.getLsbD_ushiftRight, BitVec.getLsbD_shiftLeft, getLsbD_bitWord, getLsbD_bitWord]
  by_cases hi : i = 0
  · simp [hi, hj]
  · simp [hi]

/-- Bits taken in one by one might as well have stood in the register from the start, 32 of them. -/
theorem feedBits_eq {f : Nat → Bool} (hf : ∀ i, 32 ≤ i → f i = false) (r : Word) (n : Nat) :
    feedBits f r n = crcLoop n (r ^^^ packBits f n) := by
  induction n with
  | zero => exact BitVec.xor_zero.symm
  | succ n ih =>
    rw [feedBits, ih, packBits, crcLoop_succ, ← BitVec.xor_assoc, crcLoop_xor n (r ^^^ packBits f n)]
    by_cases hn : n < 32
    · rw [crcLoop_bitWord _ hn]
    · have hzero : bitWord false <<< n = 0 := BitVec.zero_shiftLeft n
      rw [hf n (Nat.le_of_not_lt hn), hzero, crcLoop_zero]
      rfl

theorem feedBits_add (f : Nat → Bool) (r : Word) (m n : Nat) :
    feedBits f r (m + n) = feedBits (fun i => f (m + i)) (feedBits f r m) n := by
  induction n with
  | zero => rfl
  | succ n ih => rw [← Nat.add_assoc, feedBits, ih, feedBits]

theorem packBits_byte (x : Byte) : packBits (fun i => x.getLsbD i) 8 = x.setWidth 32 := by
  refine BitVec.eq_of_getLsbD_eq fun i hi => ?_
  rw [getLsbD_packBits _ _ hi, BitVec.getLsbD_setWidth]
  by_cases h : i < 8
  · simp [h, hi]
  · simp [h, BitVec.getLsbD_of_ge x i (Nat.le_of_not_lt h)]

theorem bitOf_cons_low (x : Byte) (a : List Byte) {i : Nat} (h : i < 8) : bitOf (x :: a) i = x.getLsbD i := by
  rw [bitOf, Nat.div_eq_of_lt h, Nat.mod_eq_of_lt h]
  rfl

theorem bitOf_cons_high (x : Byte) (a : List Byte) (i : Nat) : bitOf (x :: a) (8 + i) = bitOf a i := by
  rw [bitOf, Nat.add_div_left i (by decide), Nat.add_mod_left]
  rfl

theorem bitOf_past_end {a : List Byte} {n : Nat} (h : 8 * a.length ≤ n) : bitOf a n = false := by
  have hnone : a[n / 8]? = none := List.getElem?_eq_none (by omega)
  simp [bitOf, byteAt, hnone]

/-- Where two inputs differ, bit by bit (R160). -/
def diffBits (a b : List Byte) (n : Nat) : Bool := bitOf a n ^^ bitOf b n

theorem feedBits_congr {f g : Nat → Bool} {n : Nat} (h : ∀ i, i < n → f i = g i) (r : Word) :
    feedBits f r n = feedBits g r n := by
  induction n with
  | zero => rfl
  | succ n ih => rw [feedBits, feedBits, ih fun i hi => h i (Nat.lt_succ_of_lt hi), h n (Nat.lt_succ_self n)]

/-- Eight iterations on a byte take its bits in, least significant first. -/
theorem feedBits_byte (r : Word) (x y : Byte) (a b : List Byte) :
    feedBits (diffBits (x :: a) (y :: b)) r 8 = crcLoop 8 (r ^^^ (x ^^^ y).setWidth 32) := by
  have hbits : ∀ i, i < 8 → diffBits (x :: a) (y :: b) i = (x ^^^ y).getLsbD i := by
    intro i hi
    rw [diffBits, bitOf_cons_low x a hi, bitOf_cons_low y b hi, BitVec.getLsbD_xor]
  have hbyte : ∀ i, 32 ≤ i → (x ^^^ y).getLsbD i = false := fun i hi =>
    BitVec.getLsbD_of_ge _ i ((by decide : 8 ≤ 32).trans hi)
  rw [feedBits_congr hbits, feedBits_eq hbyte, packBits_byte]

/-- Two CRCs differ by the register's value after the differing bits. -/
theorem crc_xor_eq_feedBits {a b : List Byte} (hlen : a.length = b.length) (s t : Word) :
    crc a s ^^^ crc b t = feedBits (diffBits a b) (s ^^^ t) (8 * a.length) := by
  induction a generalizing b s t with
  | nil =>
    obtain rfl := List.eq_nil_of_length_eq_zero hlen.symm
    rfl
  | cons x a ih =>
    cases b with
    | nil => exact nomatch hlen
    | cons y b =>
      have htail : (fun i => diffBits (x :: a) (y :: b) (8 + i)) = diffBits a b := by
        funext i
        rw [diffBits, bitOf_cons_high, bitOf_cons_high, diffBits]
      rw [List.length_cons, Nat.mul_succ, Nat.add_comm (8 * a.length), feedBits_add, htail, feedBits_byte,
        ← crcStep_xor_crcStep]
      exact ih (Nat.succ.inj hlen) (crcStep s x) (crcStep t y)

/-- A register at 0 stays there while the bits are 0. -/
theorem feedBits_zero {f : Nat → Bool} {n : Nat} (h : ∀ i, i < n → f i = false) : feedBits f 0 n = 0 := by
  induction n with
  | zero => rfl
  | succ n ih => rw [feedBits, ih fun i hi => h i (Nat.lt_succ_of_lt hi), h n (Nat.lt_succ_self n)]; rfl

/-- A burst of 32 bits leaves the register at 0 only if it is no burst. -/
theorem burst_eq_zero {f : Nat → Bool} {k n : Nat} (hburst : ∀ i, f i = true → k ≤ i ∧ i < k + 32)
    (hzero : feedBits f 0 n = 0) : ∀ i, i < n → f i = false := by
  intro i hi
  have hoff : ∀ j, ¬ (k ≤ j ∧ j < k + 32) → f j = false := fun j hj => Bool.eq_false_of_not_eq_true (mt (hburst j) hj)
  by_cases hin : k ≤ i ∧ i < k + 32
  · obtain ⟨m, rfl⟩ := Nat.exists_eq_add_of_le (hin.1.trans hi.le)
    obtain ⟨j, rfl⟩ := Nat.exists_eq_add_of_le hin.1
    have hfresh : (0 : Word) ^^^ packBits (fun j => f (k + j)) m = packBits (fun j => f (k + j)) m := BitVec.zero_xor
    rw [feedBits_add, feedBits_zero fun j hj => hoff j (by omega), feedBits_eq fun j hj => hoff (k + j) (by omega),
      crcLoop_eq_zero_iff, hfresh] at hzero
    have hbit := getLsbD_packBits (fun j => f (k + j)) m (i := j) (by omega)
    rw [hzero] at hbit
    simpa [show j < m by omega] using hbit.symm
  · exact hoff i hin

theorem eq_of_diffBits {a b : List Byte} (hlen : a.length = b.length)
    (h : ∀ i, i < 8 * a.length → diffBits a b i = false) : a = b := by
  refine List.ext_getElem hlen fun i hia hib => BitVec.eq_of_getLsbD_eq fun j hj => ?_
  have hdiff := h (8 * i + j) (by omega)
  have hbyte : (8 * i + j) / 8 = i ∧ (8 * i + j) % 8 = j := by omega
  rw [diffBits, bitOf, bitOf, hbyte.1, hbyte.2, byteAt, byteAt, List.getD_eq_getElem a 0 hia,
    List.getD_eq_getElem b 0 hib] at hdiff
  exact bne_eq_false_iff_eq.mp hdiff

/-- A 33-bit error that is the generator itself goes undetected. -/
def generatorBits : List Byte := [0x41, 0x06, 0x71, 0xDB, 0x01]

theorem bitOf_generatorBits {n : Nat} (h : 33 ≤ n) : bitOf generatorBits n = bitOf [0, 0, 0, 0, 0] n := by
  by_cases hn : 40 ≤ n
  · rw [bitOf_past_end hn, bitOf_past_end hn]
  · interval_cases n <;> rfl

set_option maxRecDepth 4000 in
theorem crc_generatorBits : crc generatorBits 0 = crc [0, 0, 0, 0, 0] 0 := by decide

/-- Settles O5: a burst of at most 32 bits leaves a nonzero register, the generator's 33 bits do not. -/
theorem crcDetectsBursts : Obligations.CrcDetectsBursts := by
  refine ⟨fun a b k hlen hne hburst heq => ?detected,
    ⟨generatorBits, [0, 0, 0, 0, 0], rfl, by decide, fun n hn => ?inside, crc_generatorBits⟩⟩
  case detected =>
    have hzero : feedBits (diffBits a b) 0 (8 * a.length) = 0 := by
      have hxor := crc_xor_eq_feedBits hlen 0 0
      rw [heq, BitVec.xor_self] at hxor
      exact hxor.symm
    have hdiff : ∀ i, diffBits a b i = true → k ≤ i ∧ i < k + 32 := fun i hi => hburst i (bne_iff_ne.mp hi)
    exact hne (eq_of_diffBits hlen (burst_eq_zero hdiff hzero))
  case inside =>
    by_contra hge
    exact hn (bitOf_generatorBits (Nat.le_of_not_lt hge))

end Sys2Proof.Laws

/-!
The round-trip laws of the three frames (41_codec.md section 1) and the meaning of a scan (42_sync.md section 1).
-/

namespace Sys2Proof.Laws

open Sys2Proof Sys2Proof.Machine

/- Decoding an encoded frame: each field stands at its offset behind the fields before it (R110 to R112). -/

theorem encodeHandshake_append (P : Params) (name t : List Byte) (T : Dword) (C : Word) :
    encodeHandshake P name T C ++ t =
      P.hsMagic.b0 :: P.hsMagic.b1 :: P.hsMagic.b2 :: P.hsMagic.b3 :: P.protoVersion ::
        (le16 (len16 name) ++ (le64 T ++ (le32 C ++ (name ++ t)))) := by
  simp [encodeHandshake, magicBytes]

theorem encodeSession_append (P : Params) (t : List Byte) (T : Dword) (C : Word) :
    encodeSession P T C ++ t =
      P.sessMagic.b0 :: P.sessMagic.b1 :: P.sessMagic.b2 :: P.sessMagic.b3 :: P.protoVersion ::
        (le64 T ++ (le32 C ++ t)) := by
  simp [encodeSession, magicBytes]

theorem encodeBlock_append (q : Half) (p t : List Byte) (C : Word) :
    encodeBlock q p C ++ t = le16 q ++ (le16 (len16 p) ++ (p ++ (le32 C ++ t))) := by
  simp [encodeBlock]

theorem decodeHandshake_encodeHandshake (P : Params) {name : List Byte} (hname : name.length ≤ 65535)
    (t : List Byte) (T : Dword) (C : Word) :
    decodeHandshake P (encodeHandshake P name T C ++ t) =
      some { version := P.protoVersion, nameLen := len16 name, totalSize := T, fileCrc32 := C, name := name,
             consumed := 19 + name.length } := by
  have hlength : (encodeHandshake P name T C ++ t).length = 19 + name.length + t.length := by
    simp [encodeHandshake]
    omega
  have hnameLen : rdLe16 (encodeHandshake P name T C ++ t) 5 = len16 name := by
    rw [encodeHandshake_append]
    exact rdLe16_le16 (len16 name) (le64 T ++ (le32 C ++ (name ++ t)))
  have htotal : rdLe64 (encodeHandshake P name T C ++ t) 7 = T := by
    rw [encodeHandshake_append]
    exact rdLe64_le64 T (le32 C ++ (name ++ t))
  have hcrc : rdLe32 (encodeHandshake P name T C ++ t) 15 = C := by
    rw [encodeHandshake_append]
    exact rdLe32_le32 C (name ++ t)
  have hbytes : slice (encodeHandshake P name T C ++ t) 19 name.length = name := by
    rw [encodeHandshake_append]
    exact List.take_left' rfl
  have hmagic : (encodeHandshake P name T C ++ t).take 4 = magicBytes P.hsMagic := by
    rw [encodeHandshake_append]
    rfl
  have hversion : byteAt (encodeHandshake P name T C ++ t) 4 = P.protoVersion := by
    rw [encodeHandshake_append]
    rfl
  rw [decodeHandshake_eq, hnameLen, len16_toNat hname, if_pos ⟨by omega, hmagic, by omega⟩, hversion, htotal, hcrc,
    hbytes]

theorem decodeSession_encodeSession (P : Params) (t : List Byte) (T : Dword) (C : Word) :
    decodeSession P (encodeSession P T C ++ t) =
      some { version := P.protoVersion, totalSize := T, fileCrc32 := C, consumed := 17 } := by
  have hlength : 17 ≤ (encodeSession P T C ++ t).length := by simp [encodeSession]; omega
  have htotal : rdLe64 (encodeSession P T C ++ t) 5 = T := by
    rw [encodeSession_append]
    exact rdLe64_le64 T (le32 C ++ t)
  have hcrc : rdLe32 (encodeSession P T C ++ t) 13 = C := by
    rw [encodeSession_append]
    exact rdLe32_le32 C t
  have hmagic : (encodeSession P T C ++ t).take 4 = magicBytes P.sessMagic := by
    rw [encodeSession_append]
    rfl
  have hversion : byteAt (encodeSession P T C ++ t) 4 = P.protoVersion := by
    rw [encodeSession_append]
    rfl
  rw [decodeSession_eq, if_pos ⟨hlength, hmagic⟩, hversion, htotal, hcrc]

theorem decodeBlock_encodeBlock (q : Half) {p : List Byte} (hp : p.length ≤ 65535) (t : List Byte) (C : Word) :
    decodeBlock (encodeBlock q p C ++ t) =
      some { seq := q, len := len16 p, payload := p, blockCrc32 := C, consumed := 8 + p.length } := by
  have hlength : (encodeBlock q p C ++ t).length = 8 + p.length + t.length := by
    simp [encodeBlock]
    omega
  have hseq : rdLe16 (encodeBlock q p C ++ t) 0 = q := by
    rw [encodeBlock_append]
    exact rdLe16_le16 q _
  have hlen : rdLe16 (encodeBlock q p C ++ t) 2 = len16 p := by
    rw [encodeBlock_append]
    exact rdLe16_le16 (len16 p) (p ++ (le32 C ++ t))
  have hpayload : slice (encodeBlock q p C ++ t) 4 p.length = p := by
    rw [encodeBlock_append]
    exact List.take_left' rfl
  have hcrc : rdLe32 (encodeBlock q p C ++ t) (4 + p.length) = C := by
    have hsplit : encodeBlock q p C ++ t = (le16 q ++ le16 (len16 p) ++ p) ++ (le32 C ++ t) := by
      simp [encodeBlock]
    have hpre : (le16 q ++ le16 (len16 p) ++ p).length = 4 + p.length := by
      simp
      omega
    rw [hsplit, rdLe32_append_right hpre.le, hpre, Nat.sub_self, rdLe32_le32]
  rw [decodeBlock_eq, hlen, len16_toNat hp, if_pos (by omega), hseq, hpayload, hcrc]

/- Encoding a decoded record: its fields are the slices that it was read from. -/

theorem len16_slice {x : List Byte} {o : Nat} {n : Half} (h : o + n.toNat ≤ x.length) :
    len16 (slice x o n.toNat) = n := by
  have hlength : (slice x o n.toNat).length = n.toNat := by
    rw [slice, List.length_take, List.length_drop]
    omega
  rw [len16, hlength, BitVec.ofNat_toNat, BitVec.setWidth_eq]

/-- A frame is its magic and the rest of its slice. -/
theorem magic_append_slice {x : List Byte} {m : Bytes4} (h : x.take 4 = magicBytes m) (n : Nat) :
    magicBytes m ++ slice x 4 n = x.take (4 + n) := by
  rw [← h, ← slice_zero, ← slice_zero]
  exact slice_append_slice x 0 4 n

theorem encodeHandshake_of_decode {P : Params} {x : List Byte} {f : HandshakeFrame}
    (h : decodeHandshake P x = some f) (hversion : f.version = P.protoVersion) :
    encodeHandshake P f.name f.totalSize f.fileCrc32 = x.take f.consumed := by
  rw [decodeHandshake_eq] at h
  split_ifs at h with hframe
  obtain ⟨hfixed, hmagic, hname⟩ := hframe
  obtain rfl := Option.some.inj h
  have hfields := handshakeFields_eq_slice (x := x) (rdLe16 x 5).toNat hfixed
  calc encodeHandshake P (slice x 19 (rdLe16 x 5).toNat) (rdLe64 x 7) (rdLe32 x 15)
      = magicBytes P.hsMagic ++ slice x 4 (15 + (rdLe16 x 5).toNat) := by
        rw [encodeHandshake, len16_slice hname, ← hversion, ← hfields]
        simp only [List.append_assoc]
    _ = x.take (19 + (rdLe16 x 5).toNat) := by
        rw [magic_append_slice hmagic, ← Nat.add_assoc]

theorem encodeSession_of_decode {P : Params} {x : List Byte} {f : SessionFrame} (h : decodeSession P x = some f)
    (hversion : f.version = P.protoVersion) : encodeSession P f.totalSize f.fileCrc32 = x.take f.consumed := by
  rw [decodeSession_eq] at h
  split_ifs at h with hframe
  obtain ⟨hfixed, hmagic⟩ := hframe
  obtain rfl := Option.some.inj h
  calc encodeSession P (rdLe64 x 5) (rdLe32 x 13)
      = magicBytes P.sessMagic ++ slice x 4 13 := by
        rw [encodeSession, ← hversion, ← sessionFields_eq_slice hfixed]
        simp only [List.append_assoc]
    _ = x.take 17 := magic_append_slice hmagic 13

theorem encodeBlock_of_decode {x : List Byte} {f : BlockFrame} (h : decodeBlock x = some f) :
    encodeBlock f.seq f.payload f.blockCrc32 = x.take f.consumed := by
  rw [decodeBlock_eq] at h
  split_ifs at h with hwhole
  obtain rfl := Option.some.inj h
  change le16 (rdLe16 x 0) ++ le16 (len16 (slice x 4 (rdLe16 x 2).toNat)) ++ slice x 4 (rdLe16 x 2).toNat ++
    le32 (rdLe32 x (4 + (rdLe16 x 2).toNat)) = x.take (8 + (rdLe16 x 2).toNat)
  have hheader : slice x 0 2 ++ slice x 2 2 = slice x 0 4 := slice_append_slice x 0 2 2
  have hpayload := slice_append_slice x 0 4 (rdLe16 x 2).toNat
  have hframe := slice_append_slice x 0 (4 + (rdLe16 x 2).toNat) 4
  rw [Nat.zero_add] at hpayload hframe
  rw [len16_slice (by omega), le16_rdLe16_eq_slice (by omega), le16_rdLe16_eq_slice (by omega),
    le32_rdLe32_eq_slice (by omega), hheader, hpayload, hframe, slice_zero]
  congr 1
  omega

/-- Settles O8, frame by frame and direction by direction. -/
theorem frameRoundTrips : Obligations.FrameRoundTrips :=
  ⟨fun P _ t T C hname => decodeHandshake_encodeHandshake P hname t T C, decodeSession_encodeSession,
    fun q _ t C hp => decodeBlock_encodeBlock q hp t C, fun _ _ _ => encodeHandshake_of_decode,
    fun _ _ _ => encodeSession_of_decode, fun _ _ => encodeBlock_of_decode⟩

/- A scan's window is the last four of all the bytes so far (R221). -/

theorem lastN_lastN_concat (xs : List Byte) (b : Byte) : lastN 4 (lastN 4 xs ++ [b]) = lastN 4 (xs ++ [b]) := by
  have hdrop : lastN 4 xs ++ [b] = (xs ++ [b]).drop (xs.length - 4) :=
    (List.drop_append_of_le_length (Nat.sub_le _ _)).symm
  have hlength : (lastN 4 xs ++ [b]).length = min 4 xs.length + 1 := by
    rw [List.length_append, lastN_length, List.length_singleton]
  rw [lastN, hlength, hdrop, List.drop_drop, lastN, List.length_append, List.length_singleton]
  congr 1
  omega

theorem foldl_scanStep (magic : Bytes4) (xs seen : List Byte) :
    xs.foldl (fun w x => (scanStep w magic x).1) (lastN 4 seen) = lastN 4 (seen ++ xs) := by
  induction xs generalizing seen with
  | nil => rw [List.append_nil]; rfl
  | cons x xs ih =>
    rw [List.foldl_cons, scanStep_fst, lastN_lastN_concat, ih, List.append_assoc, List.singleton_append]

theorem lastN_eq_iff_suffix {s m : List Byte} (hm : m.length = 4) : lastN 4 s = m ↔ ∃ pre, s = pre ++ m := by
  rw [lastN, ← hm, eq_comm, ← List.suffix_iff_eq_drop]
  exact exists_congr fun pre => eq_comm

/-- Settles O11: the window that the step sees is the last four bytes of all. -/
theorem scanFindsMagic : Obligations.ScanFindsMagic := by
  intro magic xs b
  have hwindow : xs.foldl (fun w x => (scanStep w magic x).1) [] = lastN 4 xs := foldl_scanStep magic xs []
  rw [hwindow, scanStep_snd, lastN_lastN_concat, lastN_eq_iff_suffix (magicBytes_length magic)]

end Sys2Proof.Laws

/-!
The register map (10_state.md R69): the value that REG_READ answers at each address, the two packed registers field by
field, and the reserved addresses.
-/

namespace Sys2Proof.Laws

open Sys2Proof Sys2Proof.Machine

/- Packed words as numbers. -/

/-- A concatenation counts its first part in multiples of the second's range. -/
theorem toNat_append_eq_add {m n : Nat} (a : BitVec m) (b : BitVec n) :
    (a ++ b).toNat = b.toNat + 2 ^ n * a.toNat := by
  rw [BitVec.toNat_append, Nat.shiftLeft_eq, Nat.mul_comm, ← Nat.two_pow_add_eq_or_of_lt b.isLt, Nat.add_comm]

theorem rdLe32_toNat (s : List Byte) (o : Nat) :
    (rdLe32 s o).toNat =
      (byteAt s o).toNat + 2 ^ 8 * (byteAt s (o + 1)).toNat + 2 ^ 16 * (byteAt s (o + 2)).toNat +
        2 ^ 24 * (byteAt s (o + 3)).toNat := by
  have hhigh : (rdLe16 s (o + 2)).toNat = (byteAt s (o + 2)).toNat + 256 * (byteAt s (o + 3)).toNat :=
    rdLe16_toNat s (o + 2)
  rw [rdLe32, toNat_append_eq_add, hhigh, rdLe16_toNat]
  omega

theorem rdLe32_magicBytes_toNat (m : Bytes4) :
    (rdLe32 (magicBytes m) 0).toNat =
      m.b0.toNat + 2 ^ 8 * m.b1.toNat + 2 ^ 16 * m.b2.toNat + 2 ^ 24 * m.b3.toNat :=
  rdLe32_toNat (magicBytes m) 0

theorem rdLe16_tokenBytes_toNat (t : Bytes2) : (rdLe16 (tokenBytes t) 0).toNat = t.b0.toNat + 2 ^ 8 * t.b1.toNat :=
  rdLe16_toNat (tokenBytes t) 0

theorem tokensWord_toNat (ok no : Bytes2) :
    (rdLe16 (tokenBytes no) 0 ++ rdLe16 (tokenBytes ok) 0).toNat =
      ok.b0.toNat + 2 ^ 8 * ok.b1.toNat + 2 ^ 16 * no.b0.toNat + 2 ^ 24 * no.b1.toNat := by
  rw [toNat_append_eq_add, rdLe16_tokenBytes_toNat, rdLe16_tokenBytes_toNat]
  omega

theorem policyWord_eq (P : Params) :
    policyWord P = BitVec.ofNat 64
      ((if P.blockWaitOther = .ignore then 1 else 0) + (if P.openTempAt = .handshakeParsed then 2 else 0) +
        (if P.rxReadDeadline then 4 else 0)) := by
  rw [policyWord]
  cases P.blockWaitOther <;> cases P.openTempAt <;> cases P.rxReadDeadline <;> rfl

theorem verdictByte_toNat (v : Verdict) : (verdictByte v).toNat = Spec.verdictNumber v := by
  cases v <;> rfl

/- Reading a register, by the number it holds. -/

/-- REG_READ answers `n` as a 64-bit little-endian number, and changes nothing (R69, R352). -/
def Reads (s : State) (a : Byte) (n : Nat) : Prop :=
  exec (.regRead a) s = .next { s with responses := s.responses ++ [⟨.ok, le64 (BitVec.ofNat 64 n)⟩] }

/-- A field narrower than the register is zero-extended. -/
theorem reads_of_setWidth {s : State} {a : Byte} {w n : Nat} {v : BitVec w}
    (h : regValue s a = some (v.setWidth 64)) (hv : v.toNat = n) : Reads s a n := by
  rw [← BitVec.ofNat_toNat, hv] at h
  exact exec_regRead_of_regValue h

theorem reads_of_dword {s : State} {a : Byte} {v : Dword} (h : regValue s a = some v) : Reads s a v.toNat :=
  reads_of_setWidth (h.trans (congrArg some (BitVec.setWidth_eq v).symm)) rfl

theorem reads_of_number {s : State} {a : Byte} {n : Nat} (h : regValue s a = some (BitVec.ofNat 64 n)) :
    Reads s a n :=
  exec_regRead_of_regValue h

/-- Settles O37, address by address: fields, lengths and counts, and the packings of parameter bytes. -/
theorem registerMapValues : Obligations.RegisterMapValues := by
  refine ⟨fun _ => rfl, fun s => ?_⟩
  simp only [List.forall_mem_cons]
  refine ⟨reads_of_setWidth rfl rfl, reads_of_setWidth rfl rfl, reads_of_setWidth rfl rfl, reads_of_setWidth rfl rfl,
    reads_of_dword rfl, reads_of_setWidth rfl rfl, reads_of_dword rfl, reads_of_setWidth rfl rfl,
    reads_of_number rfl, reads_of_number rfl, reads_of_setWidth rfl rfl, reads_of_dword rfl,
    reads_of_setWidth rfl rfl, reads_of_number rfl, reads_of_setWidth rfl rfl, reads_of_setWidth rfl rfl,
    reads_of_setWidth rfl rfl, reads_of_setWidth rfl (verdictByte_toNat s.r_verdict), reads_of_setWidth rfl rfl,
    reads_of_setWidth rfl rfl, reads_of_setWidth rfl rfl, reads_of_setWidth rfl (rdLe32_magicBytes_toNat s.sc_magic),
    reads_of_setWidth rfl rfl, reads_of_setWidth rfl (toNat_append_eq_add s.params.nakByte s.params.ackByte),
    reads_of_setWidth rfl (tokensWord_toNat s.params.okToken s.params.noToken),
    reads_of_setWidth rfl (rdLe32_magicBytes_toNat s.params.hsMagic),
    reads_of_setWidth rfl (rdLe32_magicBytes_toNat s.params.sessMagic),
    reads_of_number (congrArg some (policyWord_eq s.params)), ?_⟩
  exact fun p hp => nomatch hp

/- R_FILL and SYNC_STATE. -/

theorem regValue_fill (s : State) : regValue s 0x1A = some (fillWord s) := rfl

theorem regValue_sync (s : State) : regValue s 0x21 = some (syncWord s) := rfl

/-- R_FILL as a number, for lengths within their fields. -/
theorem fillWord_toNat {s : State} (hbuf : s.r_buf.length ≤ 15) (hpayload : s.r_payload.length ≤ 65535)
    (hwin : s.e_win.length ≤ 4) :
    (fillWord s).toNat = s.r_buf.length + 2 ^ 16 * s.r_payload.length + 2 ^ 32 * s.e_win.length := by
  have hwinBits : (BitVec.ofNat 3 s.e_win.length).toNat = s.e_win.length :=
    (BitVec.toNat_ofNat _ _).trans (Nat.mod_eq_of_lt (by omega))
  rw [fillWord, toNat_append_eq_add, toNat_append_eq_add, toNat_append_eq_add, hwinBits, len16_toNat hpayload,
    len16_toNat (by omega), BitVec.toNat_ofNat]
  omega

/-- The bytes of a little-endian word are the bytes it was read from. -/
theorem rdLe32_extractLsb' (x : List Byte) {i : Nat} (hi : i < 4) :
    (rdLe32 x 0).extractLsb' (8 * i) 8 = byteAt x i := by
  have hbytes := le32_rdLe32 x 0
  simp only [le32, List.cons.injEq] at hbytes
  obtain ⟨h0, h1, h2, h3, -⟩ := hbytes
  interval_cases i
  · exact h0
  · exact h1
  · exact h2
  · exact h3

theorem byteAt_past_end {x : List Byte} {i : Nat} (h : x.length ≤ i) : byteAt x i = 0 := by
  rw [byteAt, List.getD_eq_default x 0 h]

/-- Bits 63:32 of SYNC_STATE, as one word. -/
def syncUpper (s : State) : BitVec 32 :=
  0#27 ++ bit s.sc_matched ++ bit s.sc_armed ++ BitVec.ofNat 3 s.sc_win.length

theorem syncWord_eq (s : State) : syncWord s = syncUpper s ++ rdLe32 s.sc_win 0 := rfl

theorem syncWord_window (s : State) {i : Nat} (hi : i < 4) :
    (syncWord s).extractLsb' (8 * i) 8 = if i < s.sc_win.length then byteAt s.sc_win i else 0 := by
  rw [syncWord_eq, extractLsb'_append_low _ _ _ _ (by omega), rdLe32_extractLsb' _ hi]
  split_ifs with h
  · rfl
  · exact byteAt_past_end (Nat.le_of_not_lt h)

theorem syncWord_length {s : State} (h : s.sc_win.length ≤ 4) :
    ((syncWord s).extractLsb' 32 3).toNat = s.sc_win.length := by
  have hfield : (syncWord s).extractLsb' 32 3 = BitVec.ofNat 3 s.sc_win.length :=
    (extractLsb'_append_high (syncUpper s) (rdLe32 s.sc_win 0) 0 3).trans BitVec.extractLsb'_append_eq_right
  rw [hfield, BitVec.toNat_ofNat, Nat.mod_eq_of_lt (by omega)]

theorem syncWord_armed (s : State) : (syncWord s).getLsbD 35 = s.sc_armed :=
  (getLsbD_append_high (syncUpper s) (rdLe32 s.sc_win 0) 3).trans <|
    (getLsbD_append_high _ (BitVec.ofNat 3 s.sc_win.length) 0).trans (getLsbD_append_bit_zero _ _)

theorem syncWord_matched (s : State) : (syncWord s).getLsbD 36 = s.sc_matched :=
  (getLsbD_append_high (syncUpper s) (rdLe32 s.sc_win 0) 4).trans <|
    (getLsbD_append_high _ (BitVec.ofNat 3 s.sc_win.length) 1).trans <|
      (getLsbD_append_bit_succ _ s.sc_armed 0).trans (getLsbD_append_bit_zero _ _)

theorem syncWord_reserved (s : State) : (syncWord s).extractLsb' 37 27 = 0 :=
  (extractLsb'_append_high (syncUpper s) (rdLe32 s.sc_win 0) 5 27).trans <|
    (extractLsb'_append_high _ (BitVec.ofNat 3 s.sc_win.length) 2 27).trans <|
      (extractLsb'_append_bit_succ _ s.sc_armed 1 27).trans <|
        (extractLsb'_append_bit_succ _ s.sc_matched 0 27).trans BitVec.extractLsb'_eq_self

/-- Settles O38, register by register and field by field. -/
theorem packedRegisterFields : Obligations.PackedRegisterFields := by
  intro s hbuf hpayload hwin hscan
  exact ⟨fillWord s, syncWord s, exec_regRead_of_regValue (regValue_fill s), exec_regRead_of_regValue (regValue_sync s),
    fillWord_toNat hbuf hpayload hwin, fun i => syncWord_window s, syncWord_length hscan, syncWord_armed s,
    syncWord_matched s, syncWord_reserved s⟩

/- The reserved addresses (R69). -/

/-- The four reserved ranges of the register map. -/
def ReservedAddress (a : Byte) : Prop :=
  (0x0B ≤ a.toNat ∧ a.toNat ≤ 0x0F) ∨ (0x1B ≤ a.toNat ∧ a.toNat ≤ 0x1F) ∨ (0x23 ≤ a.toNat ∧ a.toNat ≤ 0x2F) ∨
    0x36 ≤ a.toNat

theorem mem_reserved_iff (a : Byte) :
    a.toNat ∈ List.range' 0x0B 5 ++ List.range' 0x1B 5 ++ List.range' 0x23 13 ++ List.range' 0x36 202 ↔
      ReservedAddress a := by
  have hbyte := a.isLt
  simp only [List.mem_append, List.mem_range'_1, ReservedAddress]
  omega

/-- The map has a register exactly outside the reserved ranges. -/
theorem regValue_eq_none_iff (s : State) (a : Byte) : regValue s a = none ↔ ReservedAddress a := by
  unfold ReservedAddress
  unfold regValue
  split <;> simp only [reduceCtorEq, false_iff, true_iff, imp_false] at * <;> omega

/-- Settles O39: a reserved address has no register, every other address has one. -/
theorem reservedRegistersAreRefused : Obligations.ReservedRegistersAreRefused := by
  intro s a
  rw [mem_reserved_iff, ← regValue_eq_none_iff s a]
  refine ⟨exec_regRead_of_reserved, fun hsome => ?_⟩
  obtain ⟨v, hv⟩ := Option.ne_none_iff_exists'.mp hsome
  exact ⟨v, exec_regRead_of_regValue hv⟩

end Sys2Proof.Laws

/-!
Frames received byte by byte (44_receiver.md sections 2 to 4). All bytes of a frame but the last are taken quietly: the
engine stays in reading states and touches at most the deadline. The last byte runs the procedure that the frame ends
in. A frame's law and the whole transfer both use these runs.
-/

namespace Sys2Proof.Laws

open Sys2Proof Sys2Proof.Machine

/- Quiet runs. -/

/-- Outputs that set or cancel the deadline and do nothing else. -/
def TimersOnly (outs : List Output) : Prop := ∀ o ∈ outs, (∃ k, o = .timerArm k) ∨ o = .timerStop

/-- The engine takes the bytes in reading states, with no output but the deadline's. -/
inductive QuietRun : List Byte → State → State → Prop
  | nil (s : State) : QuietRun [] s s
  | cons {b : Byte} {bs : List Byte} {s t u : State} {outs : List Output} (hread : s.state ∈ Spec.readingStates)
      (hexec : exec (.evRx b) s = .next t) (houtputs : t.outputs = s.outputs ++ outs) (htimers : TimersOnly outs)
      (hrest : QuietRun bs t u) : QuietRun (b :: bs) s u

theorem QuietRun.append {xs ys : List Byte} {s t u : State} (h : QuietRun xs s t) (h' : QuietRun ys t u) :
    QuietRun (xs ++ ys) s u := by
  induction h with
  | nil => exact h'
  | cons hread hexec houtputs htimers _ ih => exact .cons hread hexec houtputs htimers (ih h')

theorem QuietRun.single {b : Byte} {s t : State} {outs : List Output} (hread : s.state ∈ Spec.readingStates)
    (hexec : exec (.evRx b) s = .next t) (houtputs : t.outputs = s.outputs ++ outs) (htimers : TimersOnly outs) :
    QuietRun [b] s t :=
  .cons hread hexec houtputs htimers (.nil t)

theorem receive_cons_of_exec {b : Byte} {s t : State} (h : exec (.evRx b) s = .next t) (bs : List Byte) :
    receive (b :: bs) s = receive bs t := by
  rw [receive, h]

theorem QuietRun.receive_eq {xs : List Byte} {s t : State} (h : QuietRun xs s t) : receive xs s = .next t := by
  induction h with
  | nil => rfl
  | cons _ hexec _ _ _ ih => rw [receive_cons_of_exec hexec, ih]

theorem timersOnly_append {xs ys : List Output} (hx : TimersOnly xs) (hy : TimersOnly ys) : TimersOnly (xs ++ ys) :=
  fun o ho => (List.mem_append.mp ho).elim (hx o) (hy o)

theorem QuietRun.outputs {xs : List Byte} {s t : State} (h : QuietRun xs s t) :
    ∃ outs, t.outputs = s.outputs ++ outs ∧ TimersOnly outs := by
  induction h with
  | nil => exact ⟨[], (List.append_nil _).symm, nofun⟩
  | cons _ _ houtputs htimers _ ih =>
    obtain ⟨outs, hrest, hquiet⟩ := ih
    exact ⟨_ ++ outs, by rw [hrest, houtputs, List.append_assoc], timersOnly_append htimers hquiet⟩

/-- One OK response for each byte (R131). -/
def oks (n : Nat) : List Response := List.replicate n ⟨.ok, []⟩

theorem oks_zero : oks 0 = [] := rfl

theorem oks_cons (n : Nat) : oks (n + 1) = ⟨.ok, []⟩ :: oks n := List.replicate_succ

theorem oks_succ (n : Nat) : oks (n + 1) = oks n ++ [⟨.ok, []⟩] := List.replicate_succ'

theorem length_lt_of_concat_prefix {acc xs : List Byte} {b : Byte} (h : acc ++ [b] <+: xs) :
    acc.length < xs.length := by
  have hlen := h.length_le
  rwa [List.length_append] at hlen

/-- Bytes that a read collects one by one: `put` is the state that holds those collected so far. -/
theorem quietRun_collect {s : State} {xs : List Byte} (put : List Byte → State) (hstart : put [] = s)
    (hread : ∀ acc, (put acc).state ∈ Spec.readingStates) (houtputs : ∀ acc, (put acc).outputs = s.outputs)
    (hexec : ∀ acc b r, acc ++ [b] <+: xs →
      exec (.evRx b) { put acc with responses := r } =
        .next { put (acc ++ [b]) with responses := r ++ [⟨.ok, []⟩] }) :
    QuietRun xs s { put xs with responses := s.responses ++ oks xs.length } := by
  suffices h : ∀ ys acc r, acc ++ ys = xs →
      QuietRun ys { put acc with responses := r } { put xs with responses := r ++ oks ys.length } by
    have hrun := h xs [] s.responses rfl
    rwa [hstart] at hrun
  intro ys
  induction ys with
  | nil =>
    intro acc r hacc
    rw [← hacc, List.append_nil, List.length_nil, oks_zero, List.append_nil]
    exact .nil _
  | cons b ys ih =>
    intro acc r hacc
    have hsplit : acc ++ [b] ++ ys = xs := by rw [List.append_assoc, List.singleton_append, hacc]
    have hrest := ih (acc ++ [b]) (r ++ [⟨.ok, []⟩]) hsplit
    rw [List.append_assoc, List.singleton_append, ← oks_cons] at hrest
    refine .cons (outs := []) (hread acc) (hexec acc b r ⟨ys, hsplit⟩) ?_ nofun hrest
    exact (houtputs _).trans ((houtputs acc).symm.trans (List.append_nil _).symm)

/- The reads. -/

/-- The first bytes of an exact-count read into the buffer (R317). -/
theorem quietRun_buffer {s : State} {c : StateCode} {arm : Byte → State → State} {n : Nat} (hs : s.state = c)
    (hread : c ∈ Spec.readingStates) (harm : rxArm c = some arm)
    (hbuffered : ∀ {s : State}, s.r_buf.length ≠ n → ∀ b, arm b s = { s with r_buf := s.r_buf ++ [b] })
    (hbuf : s.r_buf = []) {xs : List Byte} (hlen : xs.length ≤ n) :
    QuietRun xs s { s with r_buf := xs, responses := s.responses ++ oks xs.length } := by
  refine quietRun_collect (fun acc => { s with r_buf := acc }) (by rw [← hbuf]) (fun _ => hs ▸ hread) (fun _ => rfl)
    fun acc b r hprefix => ?_
  have hlt := length_lt_of_concat_prefix hprefix
  exact exec_evRx_of_buffered hs harm (hbuffered (by exact Nat.ne_of_lt (hlt.trans_le hlen)) b)

/-- The payload's bytes before the last (R303). -/
theorem quietRun_payload {s : State} (hs : s.state = .rBlkPayload) (hpayload : s.r_payload = []) {xs : List Byte}
    (hlen : xs.length < s.r_blk_len.toNat) :
    QuietRun xs s { s with r_payload := xs, responses := s.responses ++ oks xs.length } := by
  refine quietRun_collect (fun acc => { s with r_payload := acc }) (by rw [← hpayload]) (fun _ => hs ▸ by decide)
    (fun _ => rfl) fun acc b r hprefix => ?_
  have hlt := length_lt_of_concat_prefix hprefix
  exact (rxBlockPayload.2 { s with r_payload := acc, responses := r } b hs).trans
    (if_neg (show acc.length + 1 ≠ s.r_blk_len.toNat by omega))

/-- The name's bytes before the last (R295). -/
theorem quietRun_name {s : State} (hs : s.state = .rReadHsName) (hname : s.r_name = []) {xs : List Byte}
    (hlen : xs.length < s.r_name_len.toNat) :
    QuietRun xs s { s with r_name := xs, responses := s.responses ++ oks xs.length } := by
  refine quietRun_collect (fun acc => { s with r_name := acc }) (by rw [← hname]) (fun _ => hs ▸ by decide)
    (fun _ => rfl) fun acc b r hprefix => ?_
  have hlt := length_lt_of_concat_prefix hprefix
  exact (rxHandshakeName.2 { s with r_name := acc, responses := r } b hs).trans
    (if_neg (show acc.length + 1 ≠ s.r_name_len.toNat by omega))

theorem reading_outputs (c : StateCode) (s : State) :
    ∃ outs, (Spec.reading c s).outputs = s.outputs ++ outs ∧ TimersOnly outs := by
  refine ⟨_, rfl, ?_⟩
  unfold Spec.stopped TimersOnly
  split_ifs <;> simp

/- The two syncs (R292, R297): a wait for a magic, and the read that follows it. -/

/-- In state `c` the arm scans for `magic` and then begins the read of state `next`. -/
structure IsSync (c : StateCode) (arm : Byte → State → State) (magic : Params → Bytes4) (next : StateCode) :
    Prop where
  reads : c ∈ Spec.readingStates
  arm_eq : rxArm c = some arm
  byte : ∀ b s, arm b s =
    if lastN 4 (s.e_win ++ [b]) = magicBytes (magic s.params) then startRead next { s with e_win := [] }
    else { s with e_win := lastN 4 (s.e_win ++ [b]) }

theorem isSync_handshake : IsSync .rSyncHs rxSyncHs Params.hsMagic .rReadHsFixed := ⟨by decide, rfl, rxSyncHs_eq⟩

theorem isSync_session : IsSync .rSyncSess rxSyncSess Params.sessMagic .rReadSess := ⟨by decide, rfl, rxSyncSess_eq⟩

section
variable {s : State} {c next : StateCode} {arm : Byte → State → State} {magic : Params → Bytes4}

theorem exec_sync_of_miss (hsync : IsSync c arm magic next) (hs : s.state = c) {b : Byte}
    (hmiss : lastN 4 (s.e_win ++ [b]) ≠ magicBytes (magic s.params)) :
    exec (.evRx b) s = .next { s with e_win := lastN 4 (s.e_win ++ [b]), responses := Spec.ok s } := by
  rw [exec_evRx_of_rxArm hs hsync.arm_eq, hsync.byte, if_neg hmiss, accepted_eq_next]
  rfl

theorem exec_sync_of_match (hsync : IsSync c arm magic next) (hs : s.state = c) {b : Byte}
    (hmatch : lastN 4 (s.e_win ++ [b]) = magicBytes (magic s.params)) :
    exec (.evRx b) s = .next (Spec.answered (Spec.reading next { s with e_win := [] })) := by
  rw [exec_evRx_of_rxArm hs hsync.arm_eq, hsync.byte, if_pos hmatch, accepted_startRead]

/-- Bytes in which the magic does not end anywhere are skipped (R221). -/
theorem quietRun_noise (hsync : IsSync c arm magic next) (hs : s.state = c) (hwin : s.e_win = []) {xs : List Byte}
    (hnone : ∀ pre, ¬ pre ++ magicBytes (magic s.params) <+: xs) :
    QuietRun xs s { s with e_win := lastN 4 xs, responses := s.responses ++ oks xs.length } := by
  have hstart : { s with e_win := lastN 4 [] } = s := congrArg (fun w => { s with e_win := w }) hwin.symm
  refine quietRun_collect (fun acc => { s with e_win := lastN 4 acc }) hstart (fun _ => hs ▸ hsync.reads)
    (fun _ => rfl) fun acc b r hprefix => ?_
  have hmiss : lastN 4 (lastN 4 acc ++ [b]) ≠ magicBytes (magic s.params) := by
    rw [lastN_lastN_concat]
    intro hend
    obtain ⟨pre, hpre⟩ := (lastN_eq_iff_suffix (magicBytes_length _)).mp hend
    exact hnone pre (hpre ▸ hprefix)
  rw [← lastN_lastN_concat acc b]
  exact exec_sync_of_miss hsync (s := { s with e_win := lastN 4 acc, responses := r }) hs hmiss

/-- The magic's first occurrence, at the end of the bytes, begins the read that follows (R221). -/
theorem quietRun_sync (hsync : IsSync c arm magic next) (hs : s.state = c) (hwin : s.e_win = []) {noise : List Byte}
    (hfirst : ∀ pre post,
      noise ++ magicBytes (magic s.params) = pre ++ magicBytes (magic s.params) ++ post → post = []) :
    QuietRun (noise ++ magicBytes (magic s.params)) s
      { Spec.reading next { s with e_win := [] } with responses := s.responses ++ oks (noise.length + 4) } := by
  let xs := noise ++ (magicBytes (magic s.params)).take 3
  let b := (magic s.params).b3
  have hsplit : noise ++ magicBytes (magic s.params) = xs ++ [b] := 
    (List.append_assoc noise ((magicBytes (magic s.params)).take 3) [b]).symm
  have hlen : xs.length = noise.length + 3 := List.length_append
  have hquiet : QuietRun xs s { s with e_win := lastN 4 xs, responses := s.responses ++ oks xs.length } := by
    refine quietRun_noise hsync hs hwin fun pre ⟨post, hpost⟩ => ?_
    have hnil := hfirst pre (post ++ [b]) (by rw [hsplit, ← hpost, List.append_assoc])
    exact nomatch (List.append_eq_nil_iff.mp hnil).2
  have hmatch : lastN 4 (lastN 4 xs ++ [b]) = magicBytes (magic s.params) := by
    rw [lastN_lastN_concat]
    exact (lastN_eq_iff_suffix (magicBytes_length _)).mpr ⟨noise, hsplit.symm⟩
  have hexec := exec_sync_of_match hsync
    (s := { s with e_win := lastN 4 xs, responses := s.responses ++ oks xs.length })
    hs hmatch
  have hresponses : s.responses ++ oks (noise.length + 4) = s.responses ++ oks xs.length ++ [⟨.ok, []⟩] := by
    rw [hlen, List.append_assoc, ← oks_succ]
  obtain ⟨outs, houtputs, htimers⟩ := reading_outputs next { s with e_win := [] }
  rw [hsplit, hresponses]
  exact hquiet.append (.single (hs ▸ hsync.reads) hexec houtputs htimers)

/-- A magic that follows nothing is found at its end. -/
theorem quietRun_magic (hsync : IsSync c arm magic next) (hs : s.state = c) (hwin : s.e_win = []) :
    QuietRun (magicBytes (magic s.params)) s
      { Spec.reading next { s with e_win := [] } with responses := s.responses ++ oks 4 } := by
  refine quietRun_sync hsync hs hwin (noise := []) fun pre post h => List.eq_nil_of_length_eq_zero ?_
  have hlen := congrArg List.length h
  simp only [List.nil_append, List.length_append, magicBytes_length] at hlen
  omega
end

/-- Settles O31: the run up to the magic's end is exactly the stated one. -/
theorem syncSkipsNoise : Obligations.SyncSkipsNoise := fun _ _ hs hwin hfirst =>
  ⟨_, (quietRun_sync isSync_handshake hs hwin hfirst).receive_eq, rfl⟩

end Sys2Proof.Laws

/-!
Whole frames received byte by byte (44_receiver.md sections 2 to 4): what each frame's last byte runs, and on which
fields. What a quiet run does to the deadline and the port logs is not recorded.
-/

namespace Sys2Proof.Laws

open Sys2Proof Sys2Proof.Machine

/- Runs up to the deadline and the port logs. -/

/-- `v` with another deadline and other port logs. -/
def onPorts (v : State) (k : TimerKind) (outs : List Output) (r : List Response) : State :=
  { v with timer_kind := k, outputs := outs, responses := r }

/-- A quiet run that ends in `v` up to the deadline and the port logs. -/
def QuietTo (xs : List Byte) (s v : State) : Prop := ∃ k outs r, QuietRun xs s (onPorts v k outs r)

/-- The bytes before the last are taken quietly, and the last one runs `f` on `w`, up to the deadline and the logs. -/
def Delivers (xs : List Byte) (s w : State) (f : State → State) : Prop :=
  ∃ init b v, xs = init ++ [b] ∧ QuietTo init s v ∧ v.state ∈ Spec.readingStates ∧
    ∀ k outs r, exec (.evRx b) (onPorts v k outs r) = .next (f (onPorts w k outs r))

theorem QuietRun.quietTo {xs : List Byte} {s v : State} (h : QuietRun xs s v) : QuietTo xs s v :=
  ⟨v.timer_kind, v.outputs, v.responses, h⟩

theorem QuietTo.append {xs ys : List Byte} {s v w : State} (h : QuietTo xs s v)
    (hrest : ∀ k outs r, QuietTo ys (onPorts v k outs r) (onPorts w k outs r)) : QuietTo (xs ++ ys) s w := by
  obtain ⟨k, outs, r, hrun⟩ := h
  obtain ⟨k', outs', r', hrun'⟩ := hrest k outs r
  exact ⟨k', outs', r', hrun.append hrun'⟩

theorem QuietRun.delivers {xs ys : List Byte} {s v w : State} {f : State → State} (h : QuietRun xs s v)
    (hrest : Delivers ys v w f) : Delivers (xs ++ ys) s w f := by
  obtain ⟨init, b, v', hsplit, ⟨k, outs, r, hrun⟩, hread, hexec⟩ := hrest
  exact ⟨xs ++ init, b, v', by rw [hsplit, List.append_assoc], ⟨k, outs, r, h.append hrun⟩, hread, hexec⟩

theorem QuietTo.delivers {xs ys : List Byte} {s v w : State} {f : State → State} (h : QuietTo xs s v)
    (hrest : ∀ k outs r, Delivers ys (onPorts v k outs r) (onPorts w k outs r) f) : Delivers (xs ++ ys) s w f := by
  obtain ⟨k, outs, r, hrun⟩ := h
  exact hrun.delivers (hrest k outs r)

/-- A byte that begins an exact-count read (R317). -/
theorem quietTo_reading {s v : State} {b : Byte} {c : StateCode}
    (hexec : exec (.evRx b) s = .next (Spec.answered (Spec.reading c v))) (hread : s.state ∈ Spec.readingStates)
    (houtputs : v.outputs = s.outputs) :
    QuietTo [b] s { v with r_buf := [], state := c } := by
  obtain ⟨outs, hreading, htimers⟩ := reading_outputs c v
  exact ⟨_, _, _, .single hread hexec (houtputs ▸ hreading) htimers⟩

/-- The whole frame taken: only the deadline was touched before its last byte. -/
theorem Delivers.receive_eq {xs : List Byte} {s w : State} {f : State → State} (h : Delivers xs s w f) :
    ∃ k outs r, TimersOnly outs ∧ receive xs s = .next (f (onPorts w k (s.outputs ++ outs) r)) := by
  obtain ⟨init, b, v, rfl, ⟨k, outs', r, hrun⟩, -, hexec⟩ := h
  obtain ⟨outs, houtputs, htimers⟩ := hrun.outputs
  obtain rfl : outs' = s.outputs ++ outs := houtputs
  refine ⟨k, outs, r, htimers, ?_⟩
  rw [receive_append hrun.receive_eq, receive_cons_of_exec (hexec k _ r)]
  rfl

theorem TimersOnly.foldl_tempStep {outs : List Output} (h : TimersOnly outs) (content : List Byte) :
    outs.foldl tempStep content = content := by
  induction outs with
  | nil => rfl
  | cons o outs ih =>
    have hrest := ih fun o' ho' => h o' (List.mem_cons_of_mem _ ho')
    obtain ⟨k, rfl⟩ | rfl := h o List.mem_cons_self
    · exact hrest
    · exact hrest

theorem TimersOnly.filter_eq_nil {outs : List Output} (h : TimersOnly outs) {f : Output → Bool}
    (harm : ∀ k, f (.timerArm k) = false) (hstop : f .timerStop = false) : outs.filter f = [] := by
  refine List.filter_eq_nil_iff.mpr fun o ho => Bool.eq_false_iff.mp ?_
  obtain ⟨k, rfl⟩ | rfl := h o ho
  · exact harm k
  · exact hstop

/- The handshake (R294 to R296). -/

section
variable {s : State}

theorem quietTo_handshakeFixed (hs : s.state = .rReadHsFixed) (hbuf : s.r_buf = []) {xs : List Byte}
    (hlen : xs.length ≤ 14) : QuietTo xs s { s with r_buf := xs } :=
  (quietRun_buffer hs (by decide) rfl rxReadHsFixed_of_incomplete hbuf hlen).quietTo

/-- The 15 fixed bytes of a handshake frame. -/
def handshakeFixed (P : Params) (n : Half) (T : Dword) (C : Word) : List Byte :=
  [P.protoVersion] ++ le16 n ++ le64 T ++ le32 C

/-- The state that has latched a handshake whose read ended in `c` with the buffer `buf`. -/
def latched (s : State) (c : StateCode) (buf name : List Byte) (T : Dword) (C : Word) : State :=
  { s with
    state := c, r_buf := buf, r_version := s.params.protoVersion, r_name_len := len16 name, r_total := T, r_fcrc := C,
    r_name := name }

theorem handshakeFixed_split (P : Params) (n : Half) (T : Dword) (C : Word) :
    handshakeFixed P n T C = (handshakeFixed P n T C).take 14 ++ [byteAt (handshakeFixed P n T C) 14] := rfl

/-- Without a name the last fixed byte completes the handshake. -/
theorem delivers_handshake_unnamed (hs : s.state = .rReadHsFixed) (hbuf : s.r_buf = []) (T : Dword) (C : Word) :
    Delivers (handshakeFixed s.params 0 T C) s
      (latched s .rReadHsFixed (handshakeFixed s.params 0 T C) [] T C) Spec.handshakeDone := by
  refine ⟨_, _, _, handshakeFixed_split s.params 0 T C, quietTo_handshakeFixed hs hbuf (by simp [handshakeFixed]),
    hs ▸ by decide, fun k outs r => ?_⟩
  have hlast := (rxHandshakeFixed.2 (onPorts { s with r_buf := (handshakeFixed s.params 0 T C).take 14 } k outs r)
    (byteAt (handshakeFixed s.params 0 T C) 14) hs).2 s.params.protoVersion 0 T C rfl
  rw [hlast, if_pos rfl, latched, ← hs]
  rfl

theorem toNat_len16 {xs : List Byte} (h : xs.length ≤ 65535) : (len16 xs).toNat = xs.length := by
  rw [len16, BitVec.toNat_ofNat]
  omega

theorem len16_ne_zero {xs : List Byte} (h : xs.length ≤ 65535) (hne : xs ≠ []) : len16 xs ≠ 0 := by
  intro hzero
  have hlen := toNat_len16 h
  rw [hzero] at hlen
  exact hne (List.eq_nil_of_length_eq_zero hlen.symm)

/-- With a name the read of the name follows. -/
theorem quietTo_handshakeFixed_named (hs : s.state = .rReadHsFixed) (hbuf : s.r_buf = []) {n : Half} (hn : n ≠ 0)
    (T : Dword) (C : Word) :
    QuietTo (handshakeFixed s.params n T C) s
      { s with
        state := .rReadHsName, r_buf := [], r_version := s.params.protoVersion, r_name_len := n, r_total := T,
        r_fcrc := C, r_name := [] } := by
  rw [handshakeFixed_split]
  refine (quietTo_handshakeFixed hs hbuf (by simp [handshakeFixed])).append fun k outs r => ?_
  have hlast := (rxHandshakeFixed.2 (onPorts { s with r_buf := (handshakeFixed s.params n T C).take 14 } k outs r)
    (byteAt (handshakeFixed s.params n T C) 14) hs).2 s.params.protoVersion n T C rfl
  rw [if_neg hn] at hlast
  exact (quietTo_reading hlast (hs ▸ by decide) rfl :)

theorem rReadHsName_reads : StateCode.rReadHsName ∈ Spec.readingStates := by decide

/-- A handshake of the expected version, after its magic, is latched whole. -/
theorem delivers_handshake (hs : s.state = .rReadHsFixed) (hbuf : s.r_buf = []) {name : List Byte}
    (hname : name.length ≤ 65535) (T : Dword) (C : Word) :
    ∃ c buf, Delivers (handshakeFixed s.params (len16 name) T C ++ name) s (latched s c buf name T C)
      Spec.handshakeDone := by
  obtain rfl | ⟨init, b, rfl⟩ := name.eq_nil_or_concat'
  · rw [List.append_nil]
    exact ⟨_, _, delivers_handshake_unnamed hs hbuf T C⟩
  · have hlen := toNat_len16 hname
    rw [List.length_append, List.length_singleton] at hlen
    refine ⟨.rReadHsName, [], (quietTo_handshakeFixed_named hs hbuf (len16_ne_zero hname (by simp)) T C).delivers
      fun k outs r => ⟨init, b, _, rfl, (quietRun_name rfl rfl ?short).quietTo, rReadHsName_reads,
        fun k' outs' r' => ?last⟩⟩
    case short => exact hlen ▸ Nat.lt_succ_self _
    case last => exact (rxHandshakeName.2 _ b rfl).trans (if_pos hlen.symm)

theorem handshakeDone_of_version (h : s.r_version = s.params.protoVersion) :
    Spec.handshakeDone s =
      { s with
        temp_open := if s.params.openTempAt = .handshakeParsed then true else s.temp_open
        e_win := []
        timer_kind := .sessSync
        state := .rSyncSess
        outputs := s.outputs ++ (if s.params.openTempAt = .handshakeParsed then [.openTemp s.r_name] else [])
          ++ [.tx [s.params.ackByte], .timerArm .sessSync]
        responses := Spec.ok s } :=
  if_pos h

/-- Settles O32: the last byte of the frame runs the end of the handshake on the latched fields. -/
theorem wholeHandshakeIsAcknowledged : Obligations.WholeHandshakeIsAcknowledged := by
  intro s name T C hs hbuf hname
  obtain ⟨c, buf, hdelivers⟩ := delivers_handshake hs hbuf hname T C
  obtain ⟨k, outs, r, -, hreceive⟩ := hdelivers.receive_eq
  have hassoc : ∀ opened tail : List Output,
      s.outputs ++ outs ++ opened ++ tail = s.outputs ++ (outs ++ opened ++ tail) := by simp
  refine ⟨_, outs ++ (if s.params.openTempAt = .handshakeParsed then [.openTemp name] else []) ++
    [.tx [s.params.ackByte], .timerArm .sessSync], hreceive.trans (congrArg _ (handshakeDone_of_version rfl)),
    rfl, rfl, rfl, rfl, rfl, rfl, toNat_len16 hname, rfl, rfl, rfl, rfl, hassoc _ _, ?_, ?_⟩
  · rw [List.getLast?_append]
    rfl
  · simp

/- The session frame (R300, R298). -/

theorem delivers_session (hs : s.state = .rReadSess) (hbuf : s.r_buf = []) :
    Delivers ([s.r_version] ++ le64 s.r_total ++ le32 s.r_fcrc) s
      { s with
        r_buf := [s.r_version] ++ le64 s.r_total ++ le32 s.r_fcrc, r_exp_seq := 0, r_count := 0, r_run_crc := 0,
        r_verdict := .none, temp_open := if s.params.openTempAt = .sessionValidated then true else s.temp_open }
      (fun w => Spec.looped { w with
        outputs := w.outputs ++ (if s.params.openTempAt = .sessionValidated then [.openTemp s.r_name] else []) }) := by
  let frame := [s.r_version] ++ le64 s.r_total ++ le32 s.r_fcrc
  have hquiet : QuietTo (frame.take 12) s { s with r_buf := frame.take 12 } :=
    (quietRun_buffer hs (by decide) rfl rxReadSess_of_incomplete hbuf (List.length_take_le _ _)).quietTo
  refine ⟨frame.take 12, byteAt frame 12, _, rfl, hquiet, hs ▸ by decide, fun k outs r => ?_⟩
  have hlast := (rxSession.2 (onPorts { s with r_buf := frame.take 12 } k outs r) (byteAt frame 12) hs).2
    s.r_version s.r_total s.r_fcrc rfl
  exact hlast.trans (if_pos ⟨rfl, rfl, rfl⟩)

/- A block frame (R302 to R306). -/

theorem quietTo_blockHeader (hs : s.state = .rBlkHdr) (hbuf : s.r_buf = []) (q n : Half) :
    QuietTo (le16 q ++ le16 n) s
      { s with
        r_buf := [], state := if n = 0 then .rBlkCrc else .rBlkPayload, r_blk_seq := q, r_blk_len := n,
        r_payload := [] } := by
  let header := le16 q ++ le16 n
  have hquiet : QuietTo (header.take 3) s { s with r_buf := header.take 3 } :=
    (quietRun_buffer hs (by decide) rfl rxBlkHdr_of_incomplete hbuf (List.length_take_le _ _)).quietTo
  refine hquiet.append (ys := [byteAt header 3]) fun k outs r => ?_
  have hlast := (rxBlockHeader.2 (onPorts { s with r_buf := header.take 3 } k outs r) (byteAt header 3) hs).2 q n rfl
  exact (quietTo_reading hlast (hs ▸ by decide) rfl :)

theorem quietTo_blockPayload (hs : s.state = .rBlkPayload) (hpayload : s.r_payload = []) {p : List Byte}
    (hlen : p.length = s.r_blk_len.toNat) (hne : p ≠ []) :
    QuietTo p s { s with r_payload := p, r_buf := [], state := .rBlkCrc } := by
  obtain rfl | ⟨init, b, rfl⟩ := p.eq_nil_or_concat'
  · exact absurd rfl hne
  rw [List.length_append, List.length_singleton] at hlen
  refine (quietRun_payload hs hpayload (hlen ▸ Nat.lt_succ_self _)).quietTo.append fun k outs r => ?_
  have hlast := (rxBlockPayload.2 (onPorts { s with r_payload := init } k outs r) b hs).trans (if_pos hlen)
  exact (quietTo_reading hlast (hs ▸ by decide) rfl :)

/-- The header and the payload lead to the read of the CRC, whether or not there is a payload. -/
theorem quietTo_blockBody (hs : s.state = .rBlkHdr) (hbuf : s.r_buf = []) (q : Half) {p : List Byte}
    (hp : p.length ≤ 65535) :
    QuietTo (le16 q ++ le16 (len16 p) ++ p) s
      { s with r_buf := [], state := .rBlkCrc, r_blk_seq := q, r_blk_len := len16 p, r_payload := p } := by
  have hheader := quietTo_blockHeader hs hbuf q (len16 p)
  by_cases hempty : p = []
  · subst hempty
    rw [List.append_nil]
    exact hheader
  · rw [if_neg (len16_ne_zero hp hempty)] at hheader
    exact hheader.append fun k outs r => quietTo_blockPayload rfl rfl (toNat_len16 hp).symm hempty

theorem rBlkCrc_reads : StateCode.rBlkCrc ∈ Spec.readingStates := by decide

/-- Before the last byte of a block frame all of it stands in the fields. -/
def blockRead (s : State) (q : Half) (p : List Byte) (C : Word) : State :=
  { s with
    r_buf := (le32 C).take 3, state := .rBlkCrc, r_blk_seq := q, r_blk_len := len16 p, r_payload := p }

theorem quietTo_blockRead (hs : s.state = .rBlkHdr) (hbuf : s.r_buf = []) (q : Half) {p : List Byte}
    (hp : p.length ≤ 65535) (C : Word) :
    QuietTo (le16 q ++ le16 (len16 p) ++ p ++ (le32 C).take 3) s (blockRead s q p C) :=
  (quietTo_blockBody hs hbuf q hp).append fun _ _ _ =>
    (quietRun_buffer rfl rBlkCrc_reads rfl rxBlkCrc_of_incomplete rfl (List.length_take_le _ _)).quietTo

theorem encodeBlock_split (q : Half) (p : List Byte) (C : Word) :
    encodeBlock q p C = (le16 q ++ le16 (len16 p) ++ p ++ (le32 C).take 3) ++ [byteAt (le32 C) 3] :=
  (List.append_assoc (le16 q ++ le16 (len16 p) ++ p) ((le32 C).take 3) [byteAt (le32 C) 3]).symm

/-- The state after a block that both checks accept, before the loop goes on. -/
def blockCounted (s : State) (p : List Byte) (C : Word) : State :=
  { s with
    r_buf := le32 C, state := .rBlkCrc, r_blk_seq := s.r_exp_seq, r_blk_len := len16 p, r_payload := p,
    r_count := s.r_count + p.length, r_run_crc := crc p s.r_run_crc, r_exp_seq := s.r_exp_seq + 1,
    r_verdict := .accepted }

theorem delivers_block (hs : s.state = .rBlkHdr) (hbuf : s.r_buf = []) {p : List Byte} (hp : p.length ≤ 65535) :
    Delivers (encodeBlock s.r_exp_seq p (crc p 0)) s (blockCounted s p (crc p 0))
      (fun w => Spec.looped { w with outputs := w.outputs ++ [.writeTemp p, .tx [s.params.ackByte]] }) := by
  refine ⟨_, _, _, encodeBlock_split s.r_exp_seq p (crc p 0), quietTo_blockRead hs hbuf s.r_exp_seq hp (crc p 0),
    rBlkCrc_reads, fun k outs r => ?_⟩
  rw [exec_evRx_of_rxArm (s := onPorts (blockRead s s.r_exp_seq p (crc p 0)) k outs r) rfl rfl,
    rxBlkCrc_of_complete (C := crc p 0) rfl, if_pos ⟨rfl, rfl⟩, acceptBlock_eq, blockCounted, ← toNat_len16 hp]
  exact accepted_blockLoop _

/-- A block of the expected number whose CRC is wrong is answered with NAK (R306). -/
theorem delivers_badCrc (hs : s.state = .rBlkHdr) (hbuf : s.r_buf = []) {p : List Byte} (hp : p.length ≤ 65535)
    {C : Word} (hC : crc p 0 ≠ C) :
    Delivers (encodeBlock s.r_exp_seq p C) s
      { blockRead s s.r_exp_seq p C with r_buf := le32 C, r_verdict := .badCrc }
      (fun w => Spec.looped { w with outputs := w.outputs ++ [.tx [s.params.nakByte]] }) := by
  refine ⟨_, _, _, encodeBlock_split s.r_exp_seq p C, quietTo_blockRead hs hbuf s.r_exp_seq hp C,
    rBlkCrc_reads, fun k outs r => ?_⟩
  have hbad : ¬ (s.r_exp_seq = s.r_exp_seq ∧ crc p 0 = C) := fun h => hC h.2
  have hverdict : blockVerdict (decide (s.r_exp_seq = s.r_exp_seq)) (decide (crc p 0 = C)) = .badCrc := by
    rw [decide_eq_true rfl, decide_eq_false hC]
    rfl
  rw [exec_evRx_of_rxArm (s := onPorts (blockRead s s.r_exp_seq p C) k outs r) rfl rfl,
    rxBlkCrc_of_complete (C := C) rfl]
  refine (congrArg accepted (if_neg hbad)).trans ?_
  rw [rejectBlock_eq, accepted_blockLoop]
  exact congrArg (fun v => Host.Outcome.next (Spec.looped { onPorts (blockRead s s.r_exp_seq p C) k outs r with
    r_buf := le32 C, r_verdict := v, outputs := outs ++ [.tx [s.params.nakByte]] })) hverdict
end

/- The block loop (R301, R307). -/

theorem looped_of_below {s : State} (h : s.r_count < s.r_total.toNat) :
    Spec.looped s = Spec.answered (Spec.reading .rBlkHdr s) :=
  if_neg (Nat.not_le_of_gt h)

theorem looped_of_verified {s : State} (h : s.r_total.toNat ≤ s.r_count) (hcrc : s.r_run_crc = s.r_fcrc) :
    Spec.looped s =
      { s with
        timer_kind := .none
        state := .rCommitted
        outputs := s.outputs ++ Spec.stopped s ++
          [.commit, .tx [s.params.okToken.b0, s.params.okToken.b1], .endTransfer .none]
        responses := Spec.ok s } :=
  (if_pos h).trans (if_pos hcrc)

theorem looped_of_mismatch {s : State} (h : s.r_total.toNat ≤ s.r_count) (hcrc : s.r_run_crc ≠ s.r_fcrc) :
    Spec.looped s =
      { s with
        timer_kind := .none
        state := .rKeptPartial
        error := .integrityFile
        outputs := s.outputs ++ Spec.stopped s ++
          [.tx [s.params.noToken.b0, s.params.noToken.b1], .keepPartial, .endTransfer .integrityFile]
        responses := Spec.ok s } :=
  (if_pos h).trans (if_neg hcrc)

/-- What the loop keeps of a counted block. -/
structure KeepsBlock (s t : State) : Prop where
  count : t.r_count = s.r_count
  runCrc : t.r_run_crc = s.r_run_crc
  expSeq : t.r_exp_seq = s.r_exp_seq
  verdict : t.r_verdict = s.r_verdict
  outputs : ∃ outs, t.outputs = s.outputs ++ outs ∧ ∀ content, outs.foldl tempStep content = content

theorem foldl_tempStep_stopped (s : State) (content : List Byte) :
    (Spec.stopped s).foldl tempStep content = content := by
  rw [← stopOutputs_eq_stopped, foldl_tempStep_stopOutputs]

theorem looped_keepsBlock (s : State) : KeepsBlock s (Spec.looped s) := by
  by_cases hbelow : s.r_count < s.r_total.toNat
  · obtain ⟨outs, houtputs, htimers⟩ := reading_outputs .rBlkHdr s
    rw [looped_of_below hbelow]
    exact ⟨rfl, rfl, rfl, rfl, outs, houtputs, htimers.foldl_tempStep⟩
  · have hend := Nat.le_of_not_lt hbelow
    by_cases hcrc : s.r_run_crc = s.r_fcrc
    · rw [looped_of_verified hend hcrc]
      refine ⟨rfl, rfl, rfl, rfl, _, List.append_assoc _ _ _, fun content => ?_⟩
      rw [List.foldl_append, foldl_tempStep_stopped]
      rfl
    · rw [looped_of_mismatch hend hcrc]
      refine ⟨rfl, rfl, rfl, rfl, _, List.append_assoc _ _ _, fun content => ?_⟩
      rw [List.foldl_append, foldl_tempStep_stopped]
      rfl

/-- Settles O29: the frame's last byte counts the block, and the loop goes on, commits or keeps the partial file. -/
theorem wholeBlockIsAccepted : Obligations.WholeBlockIsAccepted := by
  intro s payload hs hbuf hlen
  obtain ⟨k, outs, r, htimers, hreceive⟩ := (delivers_block hs hbuf hlen).receive_eq
  let counted : State := { onPorts (blockCounted s payload (crc payload 0)) k (s.outputs ++ outs) r with
    outputs := s.outputs ++ outs ++ [.writeTemp payload, .tx [s.params.ackByte]] }
  obtain ⟨hcount, hcrc, hseq, hverdict, outs', houtputs, hkept⟩ := looped_keepsBlock counted
  refine ⟨Spec.looped counted, hreceive, hcount, hcrc, hseq, hverdict, ?temp, ?ack, ?more, ?verified, ?mismatch⟩
  case temp =>
    rw [houtputs, tempContent_append, hkept, tempContent_append, tempContent_append, htimers.foldl_tempStep]
    rfl
  case ack =>
    refine ⟨outs ++ [.writeTemp payload, .tx [s.params.ackByte]] ++ outs', ?_, by simp⟩
    rw [houtputs]
    simp only [counted, List.append_assoc]
  case more =>
    intro hbelow
    rw [looped_of_below (hcount ▸ hbelow)]
    exact ⟨rfl, rfl, rfl⟩
  case verified =>
    intro hend hgood
    rw [looped_of_verified (hcount ▸ hend) (hcrc ▸ hgood)]
    exact ⟨rfl, rfl⟩
  case mismatch =>
    intro hend hbad
    rw [looped_of_mismatch (hcount ▸ hend) (hcrc ▸ hbad)]
    exact ⟨rfl, rfl⟩

/- One flipped bit. -/

theorem byteAt_of_ne (before after : List Byte) (x y : Byte) {i : Nat} (h : i ≠ before.length) :
    byteAt (before ++ x :: after) i = byteAt (before ++ y :: after) i := by
  obtain hlt | hgt := Nat.lt_or_gt_of_ne h
  · rw [byteAt, byteAt, List.getD_append _ _ _ _ hlt, List.getD_append _ _ _ _ hlt]
  · obtain ⟨j, rfl⟩ := Nat.exists_eq_add_of_lt hgt
    have hle : before.length ≤ before.length + j + 1 := by omega
    have hoffset : before.length + j + 1 - before.length = j + 1 := by omega
    rw [byteAt, byteAt, List.getD_append_right _ _ _ _ hle, List.getD_append_right _ _ _ _ hle, hoffset]
    rfl

theorem flipBit_ne (x : Byte) {k : Nat} (hk : k < 8) : x ^^^ BitVec.twoPow 8 k ≠ x := by
  intro h
  have hbit := congrArg (fun y => y.getLsbD k) h
  simp [hk] at hbit

/-- Errors inside one byte are a burst of at most 32 bits, so the CRC detects them. -/
theorem crc_ne_of_one_byte (before after : List Byte) {x y : Byte} (hne : x ≠ y) :
    crc (before ++ x :: after) 0 ≠ crc (before ++ y :: after) 0 := by
  refine crcDetectsBursts.1 _ _ (8 * before.length) (by simp) (by simpa using hne) fun n hn => ?_
  have hplace : n / 8 = before.length := by
    by_contra hother
    exact hn (by rw [bitOf, bitOf, byteAt_of_ne before after x y hother])
  omega

/-- Settles O30: the block fails the CRC check only, and below the total the loop reads the next header. -/
theorem flippedBitIsRejected : Obligations.FlippedBitIsRejected := by
  intro s before after x k hs hbuf hbelow hlen hk
  let p := before ++ (x ^^^ BitVec.twoPow 8 k) :: after
  have hsame : p.length = (before ++ x :: after).length := by simp [p]
  have hcrc : crc p 0 ≠ crc (before ++ x :: after) 0 := crc_ne_of_one_byte before after (flipBit_ne x hk)
  obtain ⟨kind, outs, r, htimers, hreceive⟩ := (delivers_badCrc hs hbuf (hsame ▸ hlen) hcrc).receive_eq
  let answered : State := { onPorts { blockRead s s.r_exp_seq p (crc (before ++ x :: after) 0) with
      r_buf := le32 (crc (before ++ x :: after) 0), r_verdict := .badCrc } kind (s.outputs ++ outs) r with
    outputs := s.outputs ++ outs ++ [.tx [s.params.nakByte]] }
  obtain ⟨outs', houtputs, htimers'⟩ := reading_outputs .rBlkHdr answered
  refine ⟨Spec.answered (Spec.reading .rBlkHdr answered), ?_, rfl, rfl, rfl, rfl, rfl, rfl, rfl,
    outs ++ [.tx [s.params.nakByte]] ++ outs', ?_, ?_⟩
  · rw [← hsame]
    exact hreceive.trans (congrArg _ (looped_of_below hbelow))
  · refine houtputs.trans ?_
    simp only [answered, List.append_assoc]
  · rw [List.filter_append, List.filter_append, htimers.filter_eq_nil (fun _ => rfl) rfl,
      htimers'.filter_eq_nil (fun _ => rfl) rfl]
    rfl

end Sys2Proof.Laws

/-!
The scheduled run of two engines (95_test_vectors.md section 2.8, log 15), move by move: what the schedule picks, and
the link after an engine has taken a command and its host has acted on the outputs. A link is written with its six
parts, so that a move of one side shows what it leaves of the other.
-/

namespace Sys2Proof.Laws

open Sys2Proof Sys2Proof.Machine

/-- The scheduled run leads from the first link to the second. -/
def Reaches (l l' : Link) : Prop := ∃ n, ∀ k, scheduled (n + k) l = scheduled k l'

theorem Reaches.refl (l : Link) : Reaches l l := ⟨0, fun k => by rw [Nat.zero_add]⟩

theorem Reaches.of_eq {l l' : Link} (h : l = l') : Reaches l l' := h ▸ Reaches.refl l

theorem Reaches.trans {a b c : Link} (h : Reaches a b) (h' : Reaches b c) : Reaches a c := by
  obtain ⟨m, hm⟩ := h
  obtain ⟨n, hn⟩ := h'
  exact ⟨m + n, fun k => by rw [Nat.add_assoc, hm, hn]⟩

theorem reaches_of_move {l l' : Link} {m : Machine.Move} (hm : schedule l = some m) (h : applyMove none m l = some l') :
    Reaches l l' := by
  refine ⟨1, fun k => ?_⟩
  rw [Nat.add_comm, scheduled, hm]
  simp only [h]

theorem Reaches.scheduled_eq {l l' : Link} (h : Reaches l l') : ∃ n, scheduled n l = l' := by
  obtain ⟨n, hn⟩ := h
  exact ⟨n, hn 0⟩

/- An engine takes a command. -/

/-- Between two commands the port is empty; the parameters are such that the engine runs. -/
structure Runs (s : State) : Prop where
  port : s.cmd_port = []
  params : s.params.WellFormed

section Commands

variable {i : Instr} {s t : State} {outs : List Output}

theorem Runs.next (hs : Runs s) (h : exec i s = .next t) : Runs t := by
  have hstepped := stepped_of_exec h
  exact ⟨hstepped.cmd_port.trans hs.port, hstepped.params ▸ hs.params⟩

theorem engineStep_of_exec (hs : Runs s) (hi : i.WellFormed) (h : exec i s = .next t)
    (houts : t.outputs = s.outputs ++ outs) : engineStep i s = some (t, outs) := by
  have hempty : { s with cmd_port := [] } = s := congrArg (fun p => { s with cmd_port := p }) hs.port.symm
  have hstep : step { s with cmd_port := [encode i] } = .next t := by
    rw [(stepRunsDecodedCommand { s with cmd_port := [encode i] } (encode i) [] hs.params rfl).1 i
      (decodeOfEncode i hi)]
    exact (congrArg (exec i) hempty).trans h
  rw [engineStep, hstep]
  simp only [houts, List.drop_left]

theorem senderTakes_of_exec {l : Link} (hs : Runs l.sender) (hi : i.WellFormed) (h : exec i l.sender = .next t)
    (houts : t.outputs = l.sender.outputs ++ outs) :
    senderTakes none i l = some (outs.foldl senderOutput { l with sender := t }) := by
  simp [senderTakes, engineStep_of_exec hs hi h houts]

theorem receiverTakes_of_exec {l : Link} (hs : Runs l.receiver) (hi : i.WellFormed) (h : exec i l.receiver = .next t)
    (houts : t.outputs = l.receiver.outputs ++ outs) :
    receiverTakes none i l = some (outs.foldl receiverOutput { l with receiver := t }) := by
  simp [receiverTakes, engineStep_of_exec hs hi h houts]

end Commands

/- The moves of a transfer under way: both ends are started, and no MODE_REQ is unanswered. -/

/-- The sender's side is under way. -/
structure SenderReady (s : State) (h : SenderHost) : Prop where
  runs : Runs s
  started : h.started = true
  modeAsked : h.modeAsked = 0
  isOpen : h.channelOpen = true

/-- The receiver's side is under way; its channel closes when it ends first. -/
structure ReceiverReady (r : State) (h : ReceiverHost) : Prop where
  runs : Runs r
  started : h.started = true
  modeAsked : h.modeAsked = 0

theorem rxReady_of_mem {c : StateCode} (h : c ∈ Spec.readingStates) : rxReady c = true := by
  rw [rxReady_eq_decide_mem, decide_eq_true h]

section Moves

variable {s r t : State} {sh : SenderHost} {rh : ReceiverHost} {outs : List Output}

theorem reaches_toReceiver (hs : SenderReady s sh) (hr : ReceiverReady r rh) (hopen : rh.channelOpen = true)
    (hread : r.state ∈ Spec.readingStates) {b : Byte} (h : exec (.evRx b) r = .next t)
    (houts : t.outputs = r.outputs ++ outs) (bs back : List Byte) :
    Reaches ⟨s, r, sh, rh, b :: bs, back⟩ (outs.foldl receiverOutput ⟨s, t, sh, rh, bs, back⟩) := by
  refine reaches_of_move (m := .deliverToReceiver) ?_ ?_
  · simp [schedule, hs.started, hr.started, hs.modeAsked, hr.modeAsked, rxReady_of_mem hread]
  · simp only [applyMove, hopen, rxReady_of_mem hread, Bool.and_self, if_true]
    exact receiverTakes_of_exec (l := ⟨s, r, sh, rh, bs, back⟩) hr.runs (by simp [Instr.byteString]) h houts

theorem reaches_toSender (hs : SenderReady s sh) (hr : ReceiverReady r rh) (hread : s.state ∈ Spec.readingStates)
    {b : Byte} (h : exec (.evRx b) s = .next t) (houts : t.outputs = s.outputs ++ outs) (bs : List Byte) :
    Reaches ⟨s, r, sh, rh, [], b :: bs⟩ (outs.foldl senderOutput ⟨t, r, sh, rh, [], bs⟩) := by
  refine reaches_of_move (m := .deliverToSender) ?_ ?_
  · simp [schedule, hs.started, hr.started, hs.modeAsked, hr.modeAsked, rxReady_of_mem hread]
  · simp only [applyMove, hs.isOpen, rxReady_of_mem hread, Bool.and_self, if_true]
    exact senderTakes_of_exec (l := ⟨s, r, sh, rh, [], bs⟩) hs.runs (by simp [Instr.byteString]) h houts

theorem reaches_fileChunk (hs : SenderReady s sh) (hr : ReceiverReady r rh) {u : List Byte}
    (hunread : sh.unread = some u) (hmore : u ≠ []) (h : exec (.sFileData (u.take 65535)) s = .next t)
    (houts : t.outputs = s.outputs ++ outs) :
    Reaches ⟨s, r, sh, rh, [], []⟩
      (outs.foldl senderOutput ⟨t, r, { sh with unread := some (u.drop 65535) }, rh, [], []⟩) := by
  refine reaches_of_move (m := .fileChunk 65535) ?_ ?_
  · obtain ⟨b, bs, rfl⟩ := List.exists_cons_of_ne_nil hmore
    simp [schedule, hs.started, hr.started, hs.modeAsked, hr.modeAsked, hunread]
  · simp only [applyMove, hunread, Nat.le_refl, if_true]
    exact senderTakes_of_exec (l := ⟨s, r, _, rh, [], []⟩) hs.runs (List.length_take_le _ _) h houts

theorem reaches_fileEnd (hs : SenderReady s sh) (hr : ReceiverReady r rh) (hunread : sh.unread = some [])
    (hname : sh.name.length ≤ 65535) (h : exec (.sFileEnd sh.name) s = .next t)
    (houts : t.outputs = s.outputs ++ outs) :
    Reaches ⟨s, r, sh, rh, [], []⟩ (outs.foldl senderOutput ⟨t, r, { sh with unread := none }, rh, [], []⟩) := by
  refine reaches_of_move (m := .fileEnd) ?_ ?_
  · simp [schedule, hs.started, hr.started, hs.modeAsked, hr.modeAsked, hunread]
  · simp only [applyMove, hunread]
    exact senderTakes_of_exec (l := ⟨s, r, _, rh, [], []⟩) hs.runs hname h houts

theorem reaches_blockData (hs : SenderReady s sh) (hr : ReceiverReady r rh) (hunread : sh.unread = none) {n : Half}
    (hasked : sh.asked = some n) (h : exec (.sBlockData (slice sh.file sh.pos n.toNat)) s = .next t)
    (houts : t.outputs = s.outputs ++ outs) :
    Reaches ⟨s, r, sh, rh, [], []⟩
      (outs.foldl senderOutput ⟨t, r, { sh with asked := none, pos := sh.pos + n.toNat }, rh, [], []⟩) := by
  refine reaches_of_move (m := .blockData) ?_ ?_
  · simp [schedule, hs.started, hr.started, hs.modeAsked, hr.modeAsked, hunread, hasked]
  · have hlen : (slice sh.file sh.pos n.toNat).length ≤ 65535 := by
      have := List.length_take_le n.toNat (sh.file.drop sh.pos)
      have := n.isLt
      rw [slice]
      omega
    simp only [applyMove, hasked]
    exact senderTakes_of_exec (l := ⟨s, r, _, rh, [], []⟩) hs.runs hlen h houts

/-- A host that performs the deadline's outputs changes its deadline alone. -/
theorem TimersOnly.foldl_receiverOutput (h : TimersOnly outs) (rh : ReceiverHost) :
    ∃ d, ∀ s t sh there back,
      outs.foldl receiverOutput ⟨s, t, sh, rh, there, back⟩ = ⟨s, t, sh, { rh with deadline := d }, there, back⟩ := by
  induction outs generalizing rh with
  | nil => exact ⟨rh.deadline, fun _ _ _ _ _ => rfl⟩
  | cons o outs ih =>
    have hrest : TimersOnly outs := fun o' ho' => h o' (List.mem_cons_of_mem _ ho')
    obtain ⟨k, rfl⟩ | rfl := h o List.mem_cons_self
    · obtain ⟨d, hd⟩ := ih hrest { rh with deadline := k }
      exact ⟨d, fun s t sh there back => hd s t sh there back⟩
    · obtain ⟨d, hd⟩ := ih hrest { rh with deadline := .none }
      exact ⟨d, fun s t sh there back => hd s t sh there back⟩

theorem foldl_senderOutput_stopped (s : State) (l : Link) :
    (Spec.stopped s).foldl senderOutput l =
      { l with senderHost :=
          { l.senderHost with deadline := if s.timer_kind = .none then l.senderHost.deadline else .none } } := by
  rw [← stopOutputs_eq_stopped, (foldl_stopOutputs _ _).1]

theorem foldl_receiverOutput_stopped (s : State) (l : Link) :
    (Spec.stopped s).foldl receiverOutput l =
      { l with receiverHost :=
          { l.receiverHost with deadline := if s.timer_kind = .none then l.receiverHost.deadline else .none } } := by
  rw [← stopOutputs_eq_stopped, (foldl_stopOutputs _ _).2]

/-- A quiet run at the link: the bytes leave the channel, and only the receiver's engine and deadline change. -/
theorem reaches_quiet {xs : List Byte} {v : State} (hrun : QuietRun xs r v) (hs : SenderReady s sh)
    (hr : ReceiverReady r rh) (hopen : rh.channelOpen = true) (rest back : List Byte) :
    ∃ d, Reaches ⟨s, r, sh, rh, xs ++ rest, back⟩ ⟨s, v, sh, { rh with deadline := d }, rest, back⟩ ∧ Runs v := by
  induction hrun generalizing rh with
  | nil => exact ⟨rh.deadline, Reaches.refl _, hr.runs⟩
  | @cons b bs _ _ _ _ hread hexec houtputs htimers _ ih =>
    obtain ⟨d, hd⟩ := htimers.foldl_receiverOutput rh
    have hstep := reaches_toReceiver hs hr hopen hread hexec houtputs (bs ++ rest) back
    rw [hd] at hstep
    have hnext : ReceiverReady _ { rh with deadline := d } := ⟨hr.runs.next hexec, hr.started, hr.modeAsked⟩
    obtain ⟨d', hrest, hruns⟩ := ih hnext hopen
    exact ⟨d', hstep.trans hrest, hruns⟩

/-- A whole frame at the link: its last byte runs `f`, and the receiver's host acts on the outputs. -/
theorem reaches_delivers {xs : List Byte} {w : State} {f : State → State} (h : Delivers xs r w f)
    (hs : SenderReady s sh) (hr : ReceiverReady r rh) (hopen : rh.channelOpen = true) (back : List Byte) :
    ∃ k o a d, Runs (f (onPorts w k o a)) ∧ ∀ outs, (f (onPorts w k o a)).outputs = o ++ outs →
      Reaches ⟨s, r, sh, rh, xs, back⟩
        (outs.foldl receiverOutput ⟨s, f (onPorts w k o a), sh, { rh with deadline := d }, [], back⟩) := by
  obtain ⟨init, b, v, rfl, ⟨k, o, a, hrun⟩, hread, hexec⟩ := h
  obtain ⟨d, hquiet, hruns⟩ := reaches_quiet hrun hs hr hopen [b] back
  refine ⟨k, o, a, d, hruns.next (hexec k o a), fun outs houts => hquiet.trans ?_⟩
  exact reaches_toReceiver hs (rh := { rh with deadline := d }) ⟨hruns, hr.started, hr.modeAsked⟩ hopen hread
    (hexec k o a) houts [] back

end Moves

end Sys2Proof.Laws

/-!
A whole transfer over a lossless channel (44_receiver.md section 6, "Round-trip identity"; log 15). What each side holds
is said apart from the other side's: after `n` acknowledged bytes the sender waits to send the rest of the file, and the
receiver holds the first `n` bytes in its temporary file. Each exchange carries both to the next place.
-/

namespace Sys2Proof.Laws

open Sys2Proof Sys2Proof.Machine

/-- The operands of a transfer that can succeed. -/
structure Job where
  P : Params
  file : List Byte
  name : List Byte
  blockSize : Half
  wellFormed : P.WellFormed
  small : file.length < 2 ^ 64
  named : name.length ≤ 65535
  blocks : blockSize ≠ 0

/-- The file's length as the frames carry it. -/
def Job.total (J : Job) : Dword := BitVec.ofNat 64 J.file.length

theorem toNat_job_total (J : Job) : J.total.toNat = J.file.length := by
  rw [Job.total, BitVec.toNat_ofNat, Nat.mod_eq_of_lt J.small]

theorem job_blockSize_pos (J : Job) : 0 < J.blockSize.toNat :=
  Nat.pos_of_ne_zero fun h => J.blocks (BitVec.eq_of_toNat_eq h)

/- The sender's side. -/

/-- The sender's engine and host, which have read `read` of the file in the first pass. -/
structure SenderHas (J : Job) (read : List Byte) (s : State) (h : SenderHost) : Prop where
  ready : SenderReady s h
  params : s.params = J.P
  file : h.file = J.file
  name : h.name = J.name
  total : s.s_total = BitVec.ofNat 64 read.length
  fcrc : s.s_fcrc = crc read 0
  block : s.s_block = J.blockSize

/-- What `SenderHas` reads. -/
def senderFacts (s : State) (h : SenderHost) :=
  (s.cmd_port, s.params, s.s_total, s.s_fcrc, s.s_block, h.started, h.modeAsked, h.channelOpen, h.file, h.name)

theorem SenderHas.keep {J : Job} {read : List Byte} {s t : State} {h h' : SenderHost} (hs : SenderHas J read s h)
    (e : senderFacts t h' = senderFacts s h) : SenderHas J read t h' := by
  simp only [senderFacts, Prod.mk.injEq] at e
  obtain ⟨hport, hparams, htotal, hfcrc, hblock, hstarted, hasked, hopen, hfile, hname⟩ := e
  exact
    { ready := ⟨⟨hport.trans hs.ready.runs.port, hparams ▸ hs.ready.runs.params⟩, hstarted.trans hs.ready.started,
        hasked.trans hs.ready.modeAsked, hopen.trans hs.ready.isOpen⟩
      params := hparams.trans hs.params
      file := hfile.trans hs.file
      name := hname.trans hs.name
      total := htotal.trans hs.total
      fcrc := hfcrc.trans hs.fcrc
      block := hblock.trans hs.block }

/-- The length of the block at offset `n` (R246). -/
def Job.blockLen (J : Job) (n : Nat) : Nat := min J.blockSize.toNat (J.file.length - n)

/-- The sender after `n` acknowledged bytes, with the sequence number `q`: it waits for the next block's data, or for
the final status. -/
inductive SenderAt (J : Job) (n : Nat) (q : Half) (s : State) (h : SenderHost) : Prop
  | asked (has : SenderHas J J.file s h) (more : n < J.file.length) (state : s.state = .sNeedData)
      (unread : h.unread = none) (asked : h.asked = some s.s_curlen) (pos : h.pos = n) (sent : s.s_sent.toNat = n)
      (seq : s.s_seq = q) (curlen : s.s_curlen.toNat = J.blockLen n)
  | final (has : SenderHas J J.file s h) (done : n = J.file.length) (state : s.state = .sAwaitFinal)
      (fin : s.s_fin = [])

theorem SenderAt.has {J : Job} {n : Nat} {q : Half} {s : State} {h : SenderHost} (hs : SenderAt J n q s h) :
    SenderHas J J.file s h := by
  cases hs with
  | asked has => exact has
  | final has => exact has

theorem blockAsked_of_sent {s : State} (h : s.s_sent = s.s_total) :
    Spec.blockAsked s =
      { s with
        s_fin := []
        timer_kind := .final
        state := .sAwaitFinal
        outputs := s.outputs ++ [.timerArm .final]
        responses := Spec.ok s } :=
  if_pos h

theorem blockAsked_of_more {s : State} (h : s.s_sent ≠ s.s_total) :
    Spec.blockAsked s =
      { s with
        s_curlen := nextLen s
        state := .sNeedData
        outputs := s.outputs ++ [.dataReq (nextLen s)]
        responses := Spec.ok s } :=
  if_neg h

/-- Asking for the next block (R246) puts the sender at its place; the host notes the request or the deadline. -/
theorem senderAt_blockAsked {J : Job} {n : Nat} {s : State} {h : SenderHost} (hs : SenderHas J J.file s h)
    (hunread : h.unread = none) (hpos : h.pos = n) (hsent : s.s_sent.toNat = n) (hn : n ≤ J.file.length) :
    ∃ outs h', (Spec.blockAsked s).outputs = s.outputs ++ outs ∧
      (∀ t r rh there back,
        outs.foldl senderOutput ⟨t, r, h, rh, there, back⟩ = ⟨t, r, h', rh, there, back⟩) ∧
      SenderAt J n s.s_seq (Spec.blockAsked s) h' := by
  have htotal : s.s_total.toNat = J.file.length := hs.total ▸ toNat_job_total J
  by_cases hdone : s.s_sent = s.s_total
  · rw [blockAsked_of_sent hdone]
    refine ⟨_, { h with deadline := .final }, rfl, fun _ _ _ _ _ => rfl, .final (hs.keep rfl) ?_ rfl rfl⟩
    rw [← hsent, hdone, htotal]
  · have hne : s.s_sent.toNat ≠ s.s_total.toNat := mt BitVec.eq_of_toNat_eq hdone
    rw [blockAsked_of_more hdone]
    refine ⟨_, { h with asked := some (nextLen s) }, rfl, fun _ _ _ _ _ => rfl,
      .asked (hs.keep rfl) (by omega) rfl hunread rfl hpos hsent rfl ?_⟩
    refine (toNat_nextLen s).trans ?_
    rw [hs.block, htotal, hsent, Job.blockLen]

/- The receiver's side. -/

/-- The receiver's engine and host on an open channel. -/
structure ReceiverHas (J : Job) (r : State) (h : ReceiverHost) : Prop where
  ready : ReceiverReady r h
  params : r.params = J.P
  isOpen : h.channelOpen = true

/-- The fields of the handshake are latched. -/
structure Latched (J : Job) (r : State) : Prop where
  version : r.r_version = J.P.protoVersion
  total : r.r_total = J.total
  fcrc : r.r_fcrc = crc J.file 0

/-- What `ReceiverHas` reads. -/
def receiverFacts (r : State) (h : ReceiverHost) :=
  (r.cmd_port, r.params, h.started, h.modeAsked, h.channelOpen)

theorem ReceiverHas.keep {J : Job} {r t : State} {h h' : ReceiverHost} (hr : ReceiverHas J r h)
    (e : receiverFacts t h' = receiverFacts r h) : ReceiverHas J t h' := by
  simp only [receiverFacts, Prod.mk.injEq] at e
  obtain ⟨hport, hparams, hstarted, hasked, hopen⟩ := e
  exact ⟨⟨⟨hport.trans hr.ready.runs.port, hparams ▸ hr.ready.runs.params⟩, hstarted.trans hr.ready.started,
    hasked.trans hr.ready.modeAsked⟩, hparams.trans hr.params, hopen.trans hr.isOpen⟩

/-- The temporary file is open and holds `content`. -/
structure TempHolds (h : ReceiverHost) (content : List Byte) : Prop where
  isOpen : h.tempOpen = true
  content : h.temp = some content

/-- The receiver after `n` accepted bytes: it waits for block `q`, or has committed the file and sent the OK token,
which is then the answer still on its way. -/
inductive ReceiverAt (J : Job) (n : Nat) (q : Half) (r : State) (h : ReceiverHost) : List Byte → Prop
  | waiting (has : ReceiverHas J r h) (latched : Latched J r) (more : n < J.file.length) (state : r.state = .rBlkHdr)
      (buf : r.r_buf = []) (count : r.r_count = n) (runCrc : r.r_run_crc = crc (J.file.take n) 0)
      (seq : r.r_exp_seq = q) (temp : TempHolds h (J.file.take n)) : ReceiverAt J n q r h []
  | committed (ready : ReceiverReady r h) (done : n = J.file.length) (state : r.state = .rCommitted)
      (dest : h.dest = some J.file) (runCrc : r.r_run_crc = crc J.file 0) :
      ReceiverAt J n q r h (tokenBytes J.P.okToken)

theorem ReceiverAt.ready {J : Job} {n : Nat} {q : Half} {r : State} {h : ReceiverHost} {answer : List Byte}
    (hr : ReceiverAt J n q r h answer) : ReceiverReady r h := by
  cases hr with
  | waiting has => exact has.ready
  | committed ready => exact ready

/-- The block loop (R301) puts the receiver at its place; at the end of the file it commits. -/
theorem receiverAt_looped {J : Job} {n : Nat} {r : State} {h : ReceiverHost} (hr : ReceiverHas J r h)
    (hlatched : Latched J r) (hn : n ≤ J.file.length) (hcount : r.r_count = n)
    (hcrc : r.r_run_crc = crc (J.file.take n) 0) (htemp : TempHolds h (J.file.take n)) :
    ∃ outs h' answer, (Spec.looped r).outputs = r.outputs ++ outs ∧
      (∀ s t sh there back,
        outs.foldl receiverOutput ⟨s, t, sh, h, there, back⟩ = ⟨s, t, sh, h', there, back ++ answer⟩) ∧
      ReceiverAt J n r.r_exp_seq (Spec.looped r) h' answer := by
  have htotal : r.r_total.toNat = J.file.length := hlatched.total ▸ toNat_job_total J
  by_cases hmore : n < J.file.length
  · obtain ⟨outs, houtputs, htimers⟩ := reading_outputs .rBlkHdr r
    obtain ⟨d, hd⟩ := htimers.foldl_receiverOutput h
    rw [looped_of_below (by omega)]
    refine ⟨outs, { h with deadline := d }, [], houtputs, fun s t sh there back => ?_, ?_⟩
    · rw [hd, List.append_nil]
    · exact .waiting (hr.keep rfl) ⟨hlatched.version, hlatched.total, hlatched.fcrc⟩ hmore rfl rfl hcount hcrc rfl
        ⟨htemp.isOpen, htemp.content⟩
  · have hdone : n = J.file.length := by omega
    rw [hdone, List.take_length] at hcrc htemp
    rw [looped_of_verified (by omega) (hcrc.trans hlatched.fcrc.symm)]
    refine ⟨_, { { h with deadline := .none }.deleteDest.renameTemp.close with ended := some .none },
      tokenBytes J.P.okToken, List.append_assoc _ _ _, fun s t sh there back => ?_, ?_⟩
    · rw [List.foldl_append, foldl_receiverOutput_stopped, ← hr.params]
      rfl
    · exact .committed ⟨⟨hr.ready.runs.port, hr.ready.runs.params⟩, hr.ready.started, hr.ready.modeAsked⟩ hdone rfl
        htemp.content hcrc

end Sys2Proof.Laws

/-!
The exchanges of a transfer (43_sender.md, 44_receiver.md): start, the pass over the file, handshake, session, each
block, and the final status; and the whole run put together from them.
-/

namespace Sys2Proof.Laws

open Sys2Proof Sys2Proof.Machine

section
variable {J : Job} {s r : State} {sh : SenderHost} {rh : ReceiverHost} {n : Nat} {q : Half}

/- One block (R247, R248, R302 to R305). -/

/-- The file's bytes in the block at offset `n`. -/
def Job.block (J : Job) (n : Nat) : List Byte := slice J.file n (J.blockLen n)

theorem length_job_block (J : Job) (n : Nat) : (J.block n).length = J.blockLen n := by
  rw [Job.block, slice, List.length_take, List.length_drop, Job.blockLen]
  omega

theorem take_append_job_block (J : Job) (n : Nat) :
    J.file.take n ++ J.block n = J.file.take (n + J.blockLen n) :=
  List.take_add.symm

theorem job_blockLen_bounds (J : Job) {n : Nat} (h : n < J.file.length) :
    0 < J.blockLen n ∧ n + J.blockLen n ≤ J.file.length := by
  have hpos := job_blockSize_pos J
  rw [Job.blockLen]
  omega

theorem length_job_block_le (J : Job) (n : Nat) : (J.block n).length ≤ 65535 := by
  have hsize := J.blockSize.isLt
  rw [length_job_block, Job.blockLen]
  omega

/-- The sender has transmitted the block at offset `n` and waits for its answer. -/
structure BlockSent (J : Job) (n : Nat) (q : Half) (s : State) (h : SenderHost) : Prop where
  has : SenderHas J J.file s h
  unread : h.unread = none
  state : s.state = .sAwaitResp
  pos : h.pos = n + J.blockLen n
  sent : s.s_sent.toNat = n
  seq : s.s_seq = q
  curlen : s.s_curlen.toNat = J.blockLen n

theorem reaches_blockSent (hs : SenderHas J J.file s sh) (hr : ReceiverReady r rh) (hstate : s.state = .sNeedData)
    (hunread : sh.unread = none) (hasked : sh.asked = some s.s_curlen) (hpos : sh.pos = n) (hsent : s.s_sent.toNat = n)
    (hseq : s.s_seq = q) (hcurlen : s.s_curlen.toNat = J.blockLen n) :
    ∃ s' sh', Reaches ⟨s, r, sh, rh, [], []⟩ ⟨s', r, sh', rh, encodeBlock q (J.block n) (crc (J.block n) 0), []⟩ ∧
      BlockSent J n q s' sh' := by
  have hdata : slice sh.file sh.pos s.s_curlen.toNat = J.block n := by rw [hs.file, hpos, hcurlen, Job.block]
  have hlen : (J.block n).length = s.s_curlen.toNat := (length_job_block J n).trans hcurlen.symm
  have hfield : len16 (J.block n) = s.s_curlen := by rw [len16, hlen, BitVec.ofNat_toNat, BitVec.setWidth_eq]
  have hexec := (sBlockDataCommand s (J.block n)).2.1 hstate hlen
  rw [← hdata] at hexec
  have hmove := reaches_blockData hs.ready hr hunread hasked hexec rfl
  rw [hdata] at hmove
  rw [encodeBlock, hfield, ← hseq]
  refine ⟨_, { sh with asked := none, pos := sh.pos + s.s_curlen.toNat, deadline := .blockResp }, hmove, ?_⟩
  exact
    { has := hs.keep rfl
      unread := hunread
      state := rfl
      pos := congrArg₂ (· + ·) hpos hcurlen
      sent := hsent
      seq := rfl
      curlen := hcurlen }

/-- The receiver counts the block, writes it and answers ACK (R305). -/
theorem reaches_blockCounted (hs : SenderReady s sh) (hr : ReceiverHas J r rh) (hlatched : Latched J r)
    (hmore : n < J.file.length) (hstate : r.state = .rBlkHdr) (hbuf : r.r_buf = []) (hcount : r.r_count = n)
    (hcrc : r.r_run_crc = crc (J.file.take n) 0) (hseq : r.r_exp_seq = q) (htemp : TempHolds rh (J.file.take n)) :
    ∃ r' rh' answer,
      Reaches ⟨s, r, sh, rh, encodeBlock q (J.block n) (crc (J.block n) 0), []⟩
        ⟨s, r', sh, rh', [], J.P.ackByte :: answer⟩ ∧
      ReceiverAt J (n + J.blockLen n) (q + 1) r' rh' answer := by
  have hdelivers := delivers_block hstate hbuf (length_job_block_le J n)
  obtain ⟨k, o, a, d, hruns, hreach⟩ := reaches_delivers hdelivers hs hr.ready hr.isOpen []
  let counted : State := { onPorts (blockCounted r (J.block n) (crc (J.block n) 0)) k o a with
    outputs := o ++ [.writeTemp (J.block n), .tx [r.params.ackByte]] }
  let written : ReceiverHost := { rh with deadline := d, temp := some (J.file.take n ++ J.block n) }
  have hcounted : ReceiverHas J counted written := hr.keep rfl
  have hplace : counted.r_count = n + J.blockLen n := 
    congrArg₂ (· + ·) hcount (length_job_block J n)
  have hrunCrc : counted.r_run_crc = crc (J.file.take (n + J.blockLen n)) 0 := by
    rw [← take_append_job_block, crc_append]
    exact congrArg (crc (J.block n)) hcrc
  have hwritten : TempHolds written (J.file.take (n + J.blockLen n)) :=
    ⟨htemp.isOpen, congrArg some (take_append_job_block J n)⟩
  obtain ⟨outs, rh', answer, houtputs, hfold, hat⟩ := receiverAt_looped hcounted
    ⟨hlatched.version, hlatched.total, hlatched.fcrc⟩ (job_blockLen_bounds J hmore).2 hplace hrunCrc hwritten
  have happend : { rh with deadline := d }.append (J.block n) = written := by
    rw [ReceiverHost.append, if_pos htemp.isOpen]
    exact congrArg (fun t => { rh with deadline := d, temp := t }) (congrArg _ htemp.content)
  have hend := hreach ([.writeTemp (J.block n), .tx [r.params.ackByte]] ++ outs)
    (houtputs.trans (List.append_assoc _ _ _))
  rw [List.foldl_append] at hend
  change Reaches _ (outs.foldl receiverOutput
    ⟨s, Spec.looped counted, sh, { rh with deadline := d }.append (J.block n), [], [r.params.ackByte]⟩) at hend
  rw [happend, hfold, hseq, hr.params] at hend
  exact ⟨Spec.looped counted, rh', answer, hend, hseq ▸ hat⟩

/-- The sender takes the ACK and asks for the next block (R248). -/
theorem reaches_blockAcked (hsent : BlockSent J n q s sh) (hr : ReceiverReady r rh) (hmore : n < J.file.length)
    (answer : List Byte) :
    ∃ s' sh', Reaches ⟨s, r, sh, rh, [], J.P.ackByte :: answer⟩ ⟨s', r, sh', rh, [], answer⟩ ∧
      SenderAt J (n + J.blockLen n) (q + 1) s' sh' := by
  have hbound := (job_blockLen_bounds J hmore).2
  have htotal : s.s_total.toNat = J.file.length := hsent.has.total ▸ toNat_job_total J
  have hsum : s.s_sent.toNat + s.s_curlen.toNat = n + J.blockLen n := congrArg₂ (· + ·) hsent.sent hsent.curlen
  obtain ⟨sent, seq, hplace, hseq, hexec⟩ := rxBlockAck.2 s hsent.state (by omega)
  have hnext : seq = q + 1 := by
    refine BitVec.eq_of_toNat_eq (hseq.trans ?_)
    rw [hsent.seq, BitVec.toNat_add]
    rfl
  subst hnext
  obtain ⟨outs, sh', houtputs, hfold, hat⟩ := senderAt_blockAsked
    (s := { s with
      s_sent := sent, s_seq := q + 1, s_att := 0, timer_kind := .none, outputs := s.outputs ++ Spec.stopped s })
    (h := { sh with deadline := if s.timer_kind = .none then sh.deadline else .none })
    (hsent.has.keep rfl) hsent.unread hsent.pos (hplace.trans hsum) hbound
  have hread : s.state ∈ Spec.readingStates := hsent.state ▸ by decide
  have hmove := reaches_toSender hsent.has.ready hr hread hexec
    (houtputs.trans (List.append_assoc _ _ _)) answer
  rw [List.foldl_append, foldl_senderOutput_stopped, hfold] at hmove
  rw [← hsent.has.params]
  exact ⟨_, sh', hmove, hat⟩

/-- All the blocks from offset `n` on, by the number of bytes left. -/
theorem reaches_allBlocks (m : Nat) : ∀ {n q s r sh rh answer}, J.file.length - n ≤ m → n ≤ J.file.length →
    SenderAt J n q s sh → ReceiverAt J n q r rh answer →
    ∃ q' s' r' sh' rh' answer',
      Reaches ⟨s, r, sh, rh, [], answer⟩ ⟨s', r', sh', rh', [], answer'⟩ ∧
      SenderAt J J.file.length q' s' sh' ∧ ReceiverAt J J.file.length q' r' rh' answer' := by
  induction m with
  | zero =>
    intro n q s r sh rh answer hleft hn hs hr
    obtain rfl : n = J.file.length := by omega
    exact ⟨q, s, r, sh, rh, answer, Reaches.refl _, hs, hr⟩
  | succ m ih =>
    intro n q s r sh rh answer hleft hn hs hr
    cases hs with
    | final has done state fin =>
      subst done
      exact ⟨q, s, r, sh, rh, answer, Reaches.refl _, .final has rfl state fin, hr⟩
    | asked has more state unread asked pos sent seq curlen =>
      cases hr with
      | committed _ done _ _ _ => exact absurd done (Nat.ne_of_lt more)
      | waiting hr latched _ rstate buf count runCrc rseq temp =>
        obtain ⟨hpos, hbound⟩ := job_blockLen_bounds J more
        obtain ⟨s₁, sh₁, hsend, hsent⟩ := reaches_blockSent has hr.ready state unread asked pos sent seq curlen
        obtain ⟨r₁, rh₁, answer₁, hcount, hat⟩ := reaches_blockCounted hsent.has.ready hr latched more rstate buf
          count runCrc rseq temp
        obtain ⟨s₂, sh₂, hack, hnext⟩ := reaches_blockAcked hsent hat.ready more answer₁
        obtain ⟨q', s', r', sh', rh', answer', hrest, hfinal⟩ := ih (by omega) hbound hnext hat
        exact ⟨q', s', r', sh', rh', answer', ((hsend.trans hcount).trans hack).trans hrest, hfinal⟩

/- The final status (R252). -/

theorem reaches_done (hs : SenderAt J J.file.length q s sh) {answer : List Byte}
    (hr : ReceiverAt J J.file.length q r rh answer) :
    ∃ s' sh', Reaches ⟨s, r, sh, rh, [], answer⟩ ⟨s', r, sh', rh, [], []⟩ ∧ s'.state = .sDone ∧
      r.state = .rCommitted ∧ rh.dest = some J.file ∧ r.r_run_crc = crc J.file 0 := by
  cases hr with
  | waiting _ _ more => exact absurd more (Nat.lt_irrefl _)
  | committed ready _ state dest runCrc =>
    cases hs with
    | asked _ more => exact absurd more (Nat.lt_irrefl _)
    | final has _ sstate fin =>
      let first : State := { s with s_fin := [J.P.okToken.b0], responses := Spec.ok s }
      have hfirst := (rxFinalToken.2 s J.P.okToken.b0 sstate).1 fin
      have hsecond := ((rxFinalToken.2 first J.P.okToken.b1 sstate).2 J.P.okToken.b0 rfl).trans
        (if_pos (congrArg Params.okToken has.params).symm)
      have hread : s.state ∈ Spec.readingStates := sstate ▸ by decide
      have hfirstHas : SenderHas J J.file first sh := has.keep rfl
      have hmove := (reaches_toSender has.ready ready hread hfirst (List.append_nil _).symm [J.P.okToken.b1]).trans
        (reaches_toSender hfirstHas.ready ready hread hsecond (List.append_assoc _ _ _) [])
      rw [List.foldl_append, foldl_senderOutput_stopped] at hmove
      exact ⟨_, _, hmove, rfl, state, dest, runCrc⟩

end

end Sys2Proof.Laws

/-!
The opening of a transfer (43_sender.md R240 to R244, 44_receiver.md R290 to R300): both starts, the pass over the file,
the handshake and the session frame; and the whole run put together.
-/

namespace Sys2Proof.Laws

open Sys2Proof Sys2Proof.Machine

section
variable {J : Job} {s r : State} {sh : SenderHost} {rh : ReceiverHost}

/- The pass over the file (R242). -/

/-- The sender streams the file: `read` is done, and `rest` is left. -/
structure Streaming (J : Job) (read rest : List Byte) (s : State) (h : SenderHost) : Prop where
  has : SenderHas J read s h
  state : s.state = .sModeEntered
  pos : h.pos = 0
  unread : h.unread = some rest
  split : read ++ rest = J.file

theorem reaches_chunk {read rest : List Byte} (hs : Streaming J read rest s sh) (hr : ReceiverReady r rh)
    (hmore : rest ≠ []) :
    ∃ s' sh', Reaches ⟨s, r, sh, rh, [], []⟩ ⟨s', r, sh', rh, [], []⟩ ∧
      Streaming J (read ++ rest.take 65535) (rest.drop 65535) s' sh' := by
  have hsplit : read ++ rest.take 65535 ++ rest.drop 65535 = J.file := by
    rw [List.append_assoc, List.take_append_drop, hs.split]
  have hlen : read.length + (rest.take 65535).length ≤ J.file.length := by
    rw [← hsplit, List.length_append, List.length_append]
    omega
  have hsmall := J.small
  have hread : s.s_total.toNat = read.length := by
    rw [hs.has.total, BitVec.toNat_ofNat, Nat.mod_eq_of_lt (by omega)]
  obtain ⟨total, htotal, hexec⟩ := (sFileDataCommand s (rest.take 65535)).2.1 hs.state (by omega)
  have hnext : total = BitVec.ofNat 64 (read ++ rest.take 65535).length := by
    rw [List.length_append, ← hread, ← htotal, BitVec.ofNat_toNat, BitVec.setWidth_eq]
  have hready := hs.has.ready
  refine ⟨_, _, reaches_fileChunk hready hr hs.unread hmore hexec (List.append_nil _).symm, ?_⟩
  exact
    { has :=
        { ready := ⟨⟨hready.runs.port, hready.runs.params⟩, hready.started, hready.modeAsked, hready.isOpen⟩
          params := hs.has.params
          file := hs.has.file
          name := hs.has.name
          total := hnext
          fcrc := by rw [crc_append, ← hs.has.fcrc]
          block := hs.has.block }
      state := hs.state
      pos := hs.pos
      unread := rfl
      split := hsplit }

/-- The whole pass, by the number of bytes left. -/
theorem reaches_pass (m : Nat) : ∀ {read rest s sh}, rest.length ≤ m → Streaming J read rest s sh →
    ReceiverReady r rh →
    ∃ s' sh', Reaches ⟨s, r, sh, rh, [], []⟩ ⟨s', r, sh', rh, [], []⟩ ∧ Streaming J J.file [] s' sh' := by
  induction m with
  | zero =>
    intro read rest s sh hlen hs hr
    obtain rfl := List.eq_nil_of_length_eq_zero (Nat.le_zero.mp hlen)
    have hall : read = J.file := (List.append_nil read).symm.trans hs.split
    exact ⟨s, sh, Reaches.refl _, hall ▸ hs⟩
  | succ m ih =>
    intro read rest s sh hlen hs hr
    by_cases hdone : rest = []
    · exact ih (by rw [hdone]; exact Nat.zero_le m) hs hr
    · have hpos := List.length_pos_iff.mpr hdone
      obtain ⟨s₁, sh₁, hchunk, hnext⟩ := reaches_chunk hs hr hdone
      obtain ⟨s', sh', hrest, hend⟩ := ih (by rw [List.length_drop]; omega) hnext hr
      exact ⟨s', sh', hchunk.trans hrest, hend⟩

/- The handshake (R243, R292 to R296). -/

/-- The sender has sent the handshake. -/
structure Greeted (J : Job) (s : State) (h : SenderHost) : Prop where
  has : SenderHas J J.file s h
  state : s.state = .sAwaitHsAck
  pos : h.pos = 0
  unread : h.unread = none

theorem reaches_greeted (hs : Streaming J J.file [] s sh) (hr : ReceiverReady r rh) :
    ∃ s' sh', Reaches ⟨s, r, sh, rh, [], []⟩
        ⟨s', r, sh', rh, encodeHandshake J.P J.name J.total (crc J.file 0), []⟩ ∧ Greeted J s' sh' := by
  have hexec := (sFileEndCommand s sh.name).2.1 hs.state
  have hmove := reaches_fileEnd hs.has.ready hr hs.unread (hs.has.name ▸ J.named) hexec rfl
  rw [← hs.has.params, ← hs.has.name, ← hs.has.fcrc, Job.total, ← hs.has.total]
  exact ⟨_, { sh with unread := none, deadline := .hsAck }, hmove, hs.has.keep rfl, rfl, hs.pos, rfl⟩

/-- The receiver waits for the handshake. -/
structure Syncing (J : Job) (r : State) (h : ReceiverHost) : Prop where
  has : ReceiverHas J r h
  state : r.state = .rSyncHs
  win : r.e_win = []

/-- The receiver has acknowledged the handshake and waits for the session frame; by the policy of R298 the temporary
file is open already or is still to be opened. -/
structure Acknowledged (J : Job) (r : State) (h : ReceiverHost) : Prop where
  has : ReceiverHas J r h
  latched : Latched J r
  state : r.state = .rSyncSess
  win : r.e_win = []
  temp : J.P.openTempAt ≠ .sessionValidated → TempHolds h []

theorem openTempAt_eq_of_ne {o : OpenTempAt} (h : o ≠ .sessionValidated) : o = .handshakeParsed := by
  cases o with
  | sessionValidated => exact absurd rfl h
  | handshakeParsed => rfl

theorem encodeHandshake_eq (P : Params) (name : List Byte) (T : Dword) (C : Word) :
    encodeHandshake P name T C = magicBytes P.hsMagic ++ (handshakeFixed P (len16 name) T C ++ name) := by
  simp only [encodeHandshake, handshakeFixed, List.append_assoc]

theorem delivers_encodeHandshake (hs : r.state = .rSyncHs) (hwin : r.e_win = []) {name : List Byte}
    (hname : name.length ≤ 65535) (T : Dword) (C : Word) :
    ∃ c buf, Delivers (encodeHandshake r.params name T C) r (latched { r with e_win := [] } c buf name T C)
      Spec.handshakeDone := by
  obtain ⟨c, buf, hframe⟩ := delivers_handshake (s := { Spec.reading .rReadHsFixed { r with e_win := [] } with
    responses := r.responses ++ oks 4 }) rfl rfl hname T C
  rw [encodeHandshake_eq]
  exact ⟨c, buf, (quietRun_magic isSync_handshake hs hwin).delivers hframe⟩

/-- The host opens the temporary file where the engine asks for it. -/
def opened (asked : Bool) (h : ReceiverHost) : ReceiverHost :=
  if asked then { h with temp := some [], tempOpen := true } else h

theorem foldl_receiverOutput_openTemp (p : Prop) [Decidable p] (name : List Byte) (s t : State) (sh : SenderHost)
    (rh : ReceiverHost) (there back : List Byte) :
    (if p then [Output.openTemp name] else []).foldl receiverOutput ⟨s, t, sh, rh, there, back⟩ =
      ⟨s, t, sh, opened (decide p) rh, there, back⟩ := by
  by_cases hp : p
  · rw [if_pos hp, decide_eq_true hp]
    rfl
  · rw [if_neg hp, decide_eq_false hp]
    rfl

theorem opened_facts (asked : Bool) (r : State) (h : ReceiverHost) :
    receiverFacts r (opened asked h) = receiverFacts r h := by
  cases asked <;> rfl

theorem tempHolds_opened {asked : Bool} (hasked : asked = true) (h : ReceiverHost) :
    TempHolds (opened asked h) [] := by
  subst hasked
  exact ⟨rfl, rfl⟩

theorem reaches_acknowledged (hs : SenderReady s sh) (hr : Syncing J r rh) :
    ∃ r' rh', Reaches ⟨s, r, sh, rh, encodeHandshake J.P J.name J.total (crc J.file 0), []⟩
        ⟨s, r', sh, rh', [], [J.P.ackByte]⟩ ∧ Acknowledged J r' rh' := by
  obtain ⟨c, buf, hdelivers⟩ := delivers_encodeHandshake hr.state hr.win J.named J.total (crc J.file 0)
  obtain ⟨k, o, a, d, -, hreach⟩ := reaches_delivers hdelivers hs hr.has.ready hr.has.isOpen []
  rw [handshakeDone_of_version rfl] at hreach
  have hmove := hreach _ (List.append_assoc _ _ _)
  rw [List.foldl_append, foldl_receiverOutput_openTemp] at hmove
  rw [← hr.has.params]
  refine ⟨_, { opened _ { rh with deadline := d } with deadline := .sessSync }, hmove, ?_⟩
  exact
    { has := hr.has.keep (opened_facts _ r { rh with deadline := d })
      latched := ⟨congrArg Params.protoVersion hr.has.params, rfl, rfl⟩
      state := rfl
      win := rfl
      temp := fun hpolicy => by
        have hparsed : r.params.openTempAt = .handshakeParsed := hr.has.params ▸ openTempAt_eq_of_ne hpolicy
        obtain ⟨hopen, hcontent⟩ := tempHolds_opened (decide_eq_true hparsed) { rh with deadline := d }
        exact ⟨hopen, hcontent⟩ }

/- The session frame (R244, R297 to R301). -/

theorem reaches_sessionSent (hs : Greeted J s sh) (hr : ReceiverReady r rh) :
    ∃ s' sh', Reaches ⟨s, r, sh, rh, [], [J.P.ackByte]⟩
        ⟨s', r, sh', rh, encodeSession J.P J.total (crc J.file 0), []⟩ ∧ SenderAt J 0 0 s' sh' := by
  obtain ⟨outs, sh', houtputs, hfold, hat⟩ := senderAt_blockAsked
    (s := { s with
      s_seq := 0, s_sent := 0, s_att := 0, timer_kind := .none,
      outputs := s.outputs ++ Spec.stopped s ++ [.tx (encodeSession s.params s.s_total s.s_fcrc)] })
    (h := { sh with deadline := if s.timer_kind = .none then sh.deadline else .none })
    (hs.has.keep rfl) hs.unread hs.pos rfl (Nat.zero_le _)
  have hread : s.state ∈ Spec.readingStates := hs.state ▸ by decide
  have hexec := (rxHandshakeAnswer.2 s hs.state).1
  have hmove := reaches_toSender hs.has.ready hr hread hexec
    (houtputs.trans ((List.append_assoc _ _ _).trans (List.append_assoc _ _ _))) []
  rw [List.foldl_append, foldl_senderOutput_stopped, List.foldl_append] at hmove
  rw [← hs.has.params, ← hs.has.fcrc, Job.total, ← hs.has.total]
  exact ⟨_, sh', hmove.trans (.of_eq (hfold _ _ _ _ _)), hat⟩

theorem delivers_encodeSession (hs : r.state = .rSyncSess) (hwin : r.e_win = [])
    (hversion : r.r_version = r.params.protoVersion) :
    Delivers (encodeSession r.params r.r_total r.r_fcrc) r
      { r with
        state := .rReadSess, e_win := [], r_buf := [r.r_version] ++ le64 r.r_total ++ le32 r.r_fcrc, r_exp_seq := 0,
        r_count := 0, r_run_crc := 0, r_verdict := .none,
        temp_open := if r.params.openTempAt = .sessionValidated then true else r.temp_open }
      (fun w => Spec.looped { w with
        outputs := w.outputs ++ (if r.params.openTempAt = .sessionValidated then [.openTemp r.r_name] else []) }) := by
  have hframe : encodeSession r.params r.r_total r.r_fcrc =
      magicBytes r.params.sessMagic ++ ([r.r_version] ++ le64 r.r_total ++ le32 r.r_fcrc) := by
    simp only [encodeSession, hversion, List.append_assoc]
  have hsession := delivers_session (s := { Spec.reading .rReadSess { r with e_win := [] } with
    responses := r.responses ++ oks 4 }) rfl rfl
  rw [hframe]
  exact (quietRun_magic isSync_session hs hwin).delivers hsession

theorem reaches_sessionValidated (hs : SenderReady s sh) (hr : Acknowledged J r rh) :
    ∃ r' rh' answer, Reaches ⟨s, r, sh, rh, encodeSession J.P J.total (crc J.file 0), []⟩
        ⟨s, r', sh, rh', [], answer⟩ ∧ ReceiverAt J 0 0 r' rh' answer := by
  have hdelivers := delivers_encodeSession hr.state hr.win (hr.latched.version.trans (congrArg _ hr.has.params).symm)
  obtain ⟨k, o, a, d, -, hreach⟩ := reaches_delivers hdelivers hs hr.has.ready hr.has.isOpen []
  let validated : State :=
    { onPorts
        { r with
          state := .rReadSess, e_win := [], r_buf := [r.r_version] ++ le64 r.r_total ++ le32 r.r_fcrc, r_exp_seq := 0,
          r_count := 0, r_run_crc := 0, r_verdict := .none,
          temp_open := if r.params.openTempAt = .sessionValidated then true else r.temp_open } k o a with
      outputs := o ++ (if r.params.openTempAt = .sessionValidated then [.openTemp r.r_name] else []) }
  let host := opened (decide (r.params.openTempAt = .sessionValidated)) { rh with deadline := d }
  have htemp : TempHolds host [] := by
    by_cases hpolicy : r.params.openTempAt = .sessionValidated
    · exact tempHolds_opened (decide_eq_true hpolicy) _
    · simp only [host, decide_eq_false hpolicy]
      obtain ⟨hopen, hcontent⟩ := hr.temp (hr.has.params ▸ hpolicy)
      exact ⟨hopen, hcontent⟩
  obtain ⟨outs, rh', answer, houtputs, hfold, hat⟩ := receiverAt_looped (n := 0) (r := validated) (h := host)
    (hr.has.keep (opened_facts _ r { rh with deadline := d })) ⟨hr.latched.version, hr.latched.total, hr.latched.fcrc⟩
    (Nat.zero_le _) rfl rfl htemp
  have hmove := hreach _ (houtputs.trans (List.append_assoc _ _ _))
  rw [List.foldl_append, foldl_receiverOutput_openTemp, hfold] at hmove
  rw [← hr.has.params, ← hr.latched.total, ← hr.latched.fcrc]
  exact ⟨_, rh', answer, hmove, hat⟩
end

end Sys2Proof.Laws

/-!
The start of a transfer (43_sender.md R240, R241; 44_receiver.md R290, R291), and the whole run put together.
-/

namespace Sys2Proof.Laws

open Sys2Proof Sys2Proof.Machine

section
variable {s r t : State} {sh : SenderHost} {rh : ReceiverHost} {outs : List Output}

/- The four moves of the start. -/

theorem reaches_startSender (hs : Runs s) (hstarted : sh.started = false)
    (h : exec (.sStart sh.blockSize sh.maxAttempts) s = .next t) (houts : t.outputs = s.outputs ++ outs) :
    Reaches ⟨s, r, sh, rh, [], []⟩ (outs.foldl senderOutput ⟨t, r, sh.start, rh, [], []⟩) := by
  refine reaches_of_move (m := .startSender) ?_ ?_
  · simp [schedule, hstarted]
  · simp only [applyMove, hstarted]
    exact senderTakes_of_exec (l := ⟨s, r, sh.start, rh, [], []⟩) hs (Nat.zero_le _) h houts

theorem reaches_startReceiver (hr : Runs r) (hs : sh.started = true) (hstarted : rh.started = false)
    (h : exec .rStart r = .next t) (houts : t.outputs = r.outputs ++ outs) :
    Reaches ⟨s, r, sh, rh, [], []⟩ (outs.foldl receiverOutput ⟨s, t, sh, rh.start, [], []⟩) := by
  refine reaches_of_move (m := .startReceiver) ?_ ?_
  · simp [schedule, hs, hstarted]
  · simp only [applyMove, hstarted]
    exact receiverTakes_of_exec (l := ⟨s, r, sh, rh.start, [], []⟩) hr (Nat.zero_le _) h houts

theorem reaches_modeDoneSender (hs : Runs s) (hstarted : sh.started = true) (hr : rh.started = true)
    (hasked : sh.modeAsked = 1) (hopen : sh.channelOpen = true) (hstate : s.state = .sModePending)
    (h : exec (.modeDone 1) s = .next t) (houts : t.outputs = s.outputs ++ outs) :
    Reaches ⟨s, r, sh, rh, [], []⟩
      (outs.foldl senderOutput ⟨t, r, { sh with modeAsked := 0, unread := some sh.file }, rh, [], []⟩) := by
  refine reaches_of_move (m := .modeDoneSender true) ?_ ?_
  · simp [schedule, hstarted, hr, hasked]
  · have henabled : (sh.channelOpen && decide (0 < sh.modeAsked)) = true := by rw [hopen, hasked]; rfl
    simp only [applyMove]
    rw [if_pos henabled, hasked, hstate]
    exact senderTakes_of_exec (l := ⟨s, r, { sh with modeAsked := 0, unread := some sh.file }, rh, [], []⟩) hs
      (Nat.zero_le _) h houts

theorem reaches_modeDoneReceiver (hr : Runs r) (hs : sh.started = true) (hstarted : rh.started = true)
    (hdone : sh.modeAsked = 0) (hasked : rh.modeAsked = 1) (hopen : rh.channelOpen = true)
    (h : exec (.modeDone 1) r = .next t) (houts : t.outputs = r.outputs ++ outs) :
    Reaches ⟨s, r, sh, rh, [], []⟩
      (outs.foldl receiverOutput ⟨s, t, sh, { rh with modeAsked := 0 }, [], []⟩) := by
  refine reaches_of_move (m := .modeDoneReceiver true) ?_ ?_
  · simp [schedule, hs, hstarted, hdone, hasked]
  · have henabled : (rh.channelOpen && decide (0 < rh.modeAsked)) = true := by rw [hopen, hasked]; rfl
    simp only [applyMove]
    rw [if_pos henabled, hasked]
    exact receiverTakes_of_exec (l := ⟨s, r, sh, { rh with modeAsked := 0 }, [], []⟩) hr (Nat.zero_le _) h houts

end

/-- Both engines are started, and both negotiators answer. -/
theorem reaches_streaming (J : Job) {maxAttempts : Half} (hattempts : maxAttempts ≠ 0) (dest : Option (List Byte)) :
    ∃ s r sh rh, Reaches (linkStart J.P J.file J.name J.blockSize maxAttempts dest) ⟨s, r, sh, rh, [], []⟩ ∧
      Streaming J [] J.file s sh ∧ Syncing J r rh := by
  let l := linkStart J.P J.file J.name J.blockSize maxAttempts dest
  have hidle : Runs l.sender := ⟨rfl, J.wellFormed⟩
  have hsStart := (startCommands l.sender J.blockSize maxAttempts).2.1 rfl J.blocks hattempts
  have hrStart := (startCommands l.receiver J.blockSize maxAttempts).2.2.2.2.1 rfl
  have hsRuns := hidle.next hsStart
  have hrRuns := hidle.next hrStart
  have hsMode := fun s hs => ((modeDoneCommand s).2.1 hs).1
  have hrMode := fun r hr => ((modeDoneCommand r).2.2.1 hr).1
  have hstarted := (reaches_startSender (sh := l.senderHost) (rh := l.receiverHost) (r := l.receiver) hidle rfl
    hsStart rfl).trans (reaches_startReceiver (rh := l.receiverHost) hidle rfl rfl hrStart rfl)
  have hmodes := (hstarted.trans (reaches_modeDoneSender hsRuns rfl rfl rfl rfl rfl (hsMode _ rfl)
    (List.append_nil _).symm)).trans (reaches_modeDoneReceiver hrRuns rfl rfl rfl rfl rfl (hrMode _ rfl) rfl)
  refine ⟨_, _, _, _, hmodes, ?_, ?_⟩
  · exact
      { has :=
          { ready := ⟨hsRuns.next (hsMode _ rfl), rfl, rfl, rfl⟩
            params := rfl, file := rfl, name := rfl, total := rfl, fcrc := rfl, block := rfl }
        state := rfl
        pos := rfl
        unread := rfl
        split := rfl }
  · exact
      { has := ⟨⟨hrRuns.next (hrMode _ rfl), rfl, rfl⟩, rfl, rfl⟩
        state := rfl
        win := rfl }

/-- The whole run: start, pass, handshake, session, blocks, final status. -/
theorem reaches_transferred (J : Job) {maxAttempts : Half} (hattempts : maxAttempts ≠ 0) (dest : Option (List Byte)) :
    ∃ s r sh rh, Reaches (linkStart J.P J.file J.name J.blockSize maxAttempts dest) ⟨s, r, sh, rh, [], []⟩ ∧
      s.state = .sDone ∧ r.state = .rCommitted ∧ rh.dest = some J.file ∧ r.r_run_crc = crc J.file 0 := by
  obtain ⟨s₀, r₀, sh₀, rh₀, hstart, hstreaming, hsyncing⟩ := reaches_streaming J hattempts dest
  obtain ⟨s₁, sh₁, hpass, hread⟩ := reaches_pass _ (Nat.le_refl _) hstreaming hsyncing.has.ready
  obtain ⟨s₂, sh₂, hgreet, hgreeted⟩ := reaches_greeted hread hsyncing.has.ready
  obtain ⟨r₁, rh₁, hack, hacknowledged⟩ := reaches_acknowledged hgreeted.has.ready hsyncing
  obtain ⟨s₃, sh₃, hsession, hsent⟩ := reaches_sessionSent hgreeted hacknowledged.has.ready
  obtain ⟨r₂, rh₂, answer, hvalidate, hvalid⟩ := reaches_sessionValidated hsent.has.ready hacknowledged
  obtain ⟨q, s₄, r₃, sh₄, rh₃, answer', hblocks, hfinal, hcommitted⟩ :=
    reaches_allBlocks _ (Nat.le_refl _) (Nat.zero_le _) hsent hvalid
  obtain ⟨s₅, sh₅, hdone, hends⟩ := reaches_done hfinal hcommitted
  have hopening := ((hstart.trans hpass).trans hgreet).trans (hack.trans hsession)
  exact ⟨s₅, r₃, sh₅, rh₃, ((hopening.trans hvalidate).trans hblocks).trans hdone, hends⟩

/-- Settles O59: the scheduled run of a job that the hypotheses admit. -/
theorem losslessTransferCompletes : Obligations.LosslessTransferCompletes := by
  intro P file name blockSize maxAttempts dest hwf hsmall hname hblock hattempts
  obtain ⟨s, r, sh, rh, hreach, hends⟩ :=
    reaches_transferred ⟨P, file, name, blockSize, hwf, hsmall, hname, hblock⟩ hattempts dest
  obtain ⟨n, hn⟩ := hreach.scheduled_eq
  exact ⟨n, by rw [hn]; exact hends⟩

end Sys2Proof.Laws
